-- ==== Sys2Proof/Word.lean ====
section
/-! DEFINITION. The word types of the block: bytes of the framebuffer, of the glyph table and of frames, and the 16-bit
words of a command descriptor (00_scope.md R13, R15; 30_encoding.md R90). -/

namespace Sys2Proof

/-- An unsigned 8-bit value, `u8` (R15). Bit `k` has weight `2^k`; bit 0 is the least significant. -/
abbrev Byte := BitVec 8

/-- One 16-bit word of a command descriptor (R90); an operand word is the unsigned value `u16` (R13, R92). -/
abbrev Word16 := BitVec 16

end Sys2Proof
end

