-- ==== Sys2Proof/Config.lean ====
section
/-! DEFINITION. The configuration of the block (00_scope.md R8 to R14, 10_state.md R31), the host's OPEN parameters
(60_exceptions.md R277, R281), and the free values: what a transport or reset-control call answers (R271), and the OPEN
parameters of the reference configuration, which no statement can see. -/

namespace Sys2Proof

/-- The interface kind, `IFACE` (R14). -/
inductive Iface where
  | bus
  | none
deriving DecidableEq, Repr, Inhabited

/-- `DESC_PORT` (30_encoding.md R96): a port of whole words, or of bytes, low byte first. -/
inductive DescPort where
  | wordWide
  | byteWide
deriving DecidableEq, Repr, Inhabited

/-- The transport's and the reset control's error value: opaque, passed on unchanged (R253, R271; log 7). -/
abbrev IoError := Nat

/-- The outcome of one call of a collaborator: `Result<(), Error>` (R270, R273). -/
inductive IoOutcome where
  | ok
  | err (e : IoError)
deriving DecidableEq, Repr, Inhabited

/-- What a collaborator's call does: it returns an outcome, or never returns (70_reset_and_hazards.md R312). -/
inductive Draw where
  | returns (o : IoOutcome)
  | never
deriving DecidableEq, Repr, Inhabited

/-- The configuration fields of R31, with `DESC_PORT` (R96) and the host's parameters: `BRINGUP_SEQ` and `POWER_OFF_OPC`
(R277, R281), and where it sets the reset line's direction (R273; log 17). No operation writes one (R30). -/
structure Config where
  /-- `W`, the pixel width (R8). -/
  w : Nat
  /-- `H`, the pixel height (R8). -/
  h : Nat
  /-- `IFACE` (R14). -/
  iface : Iface
  /-- `BUS_ADDR`, passed unchanged to the transport with each write (R14, R270; log 4). -/
  busAddr : Nat
  /-- `PFX_CMD_SINGLE` (R11). -/
  pfxCmdSingle : Byte
  /-- `PFX_CMD_MULTI` (R11). -/
  pfxCmdMulti : Byte
  /-- `PFX_DATA_SINGLE` (R11). -/
  pfxDataSingle : Byte
  /-- `PFX_DATA_MULTI` (R11). -/
  pfxDataMulti : Byte
  /-- `CHUNK` (R10). -/
  chunk : Nat
  /-- `MAX_XFER` (R10). -/
  maxXfer : Nat
  /-- `GLYPH`: 128 entries of 5 column bytes (R12, R35). -/
  glyph : Vector (Vector Byte 5) 128
  /-- `DESC_PORT` (R96). -/
  descPort : DescPort
  /-- `BRINGUP_SEQ`, the host's configuration command bytes (R277). -/
  bringUpSeq : List Byte
  /-- `POWER_OFF_OPC`, the controller's power-off opcode (R281). -/
  powerOffOpc : Byte
  /-- The host calls `set_direction(out)` in `open`, after it acquired the reset control (R273, N5; log 17). -/
  dirInOpen : Bool
  /-- The host calls `set_direction(out)` at the start of each `setup` (R273, N5; log 17). -/
  dirInSetup : Bool
deriving DecidableEq, Repr

/-- FREE VALUE: what the `n`-th collaborator call whose outcome nothing has fixed does (R271, U11, U12, U17; log 6). -/
opaque Config.draw : Nat → Draw

/-- FREE VALUE: the four prefixes of the reference configuration are the images of 0, 1, 2 and 3, so that they are any four
distinct bytes (R11, U7; log 2). -/
opaque Config.openPrefixes : Equiv.Perm Byte

/-- FREE VALUE: the glyph table of the reference configuration (R12, U9; log 3). -/
opaque Config.openGlyph : Vector (Vector Byte 5) 128

/-- FREE VALUE: the bus address of the reference configuration (R14, U10; log 4). -/
opaque Config.openBusAddr : Nat

/-- FREE VALUE: the bring-up sequence of the reference configuration, two bytes and any further ones (R277, U8; log 5). -/
opaque Config.openBringUp : Byte × Byte × List Byte

/-- FREE VALUE: the power-off opcode of the reference configuration (R281, U8; log 5). -/
opaque Config.openPowerOff : Byte

/-- FREE VALUE: whether the host of the reference configuration sets the direction in `open` (R273, N5; log 17). -/
opaque Config.openDirInOpen : Bool

/-- FREE VALUE: whether the host of the reference configuration sets the direction in `setup` (R273, N5; log 17). -/
opaque Config.openDirInSetup : Bool

/-- The reference configuration (R8, R10): 128 x 64 pixels, chunks and transfers of 32 bytes, with a bus (log 1); every OPEN
parameter is a free value. The bring-up sequence is cut to the longest payload a SENDCMD can carry (R93). -/
def Config.reference : Config where
  w := 128
  h := 64
  iface := .bus
  busAddr := Config.openBusAddr
  pfxCmdSingle := Config.openPrefixes 0
  pfxCmdMulti := Config.openPrefixes 1
  pfxDataSingle := Config.openPrefixes 2
  pfxDataMulti := Config.openPrefixes 3
  chunk := 32
  maxXfer := 32
  glyph := Config.openGlyph
  descPort := .wordWide
  bringUpSeq := Config.openBringUp.1 :: Config.openBringUp.2.1 :: Config.openBringUp.2.2.take 65533
  powerOffOpc := Config.openPowerOff
  dirInOpen := Config.openDirInOpen
  dirInSetup := Config.openDirInSetup

end Sys2Proof
end

