-- ==== Sys2Proof/Syntax.lean ====
section
/-! DEFINITION. The operations of the block, one constructor per row of spec/opcode_table.json (30_encoding.md R94), with
the operands in the table's order. An operand is the 16-bit word of its descriptor (R92). -/

namespace Sys2Proof

/-- A colour (00_scope.md R18): `set` is a lit pixel, a 1 bit; `clr` is an unlit pixel, a 0 bit. -/
inductive Colour where
  | set
  | clr
deriving DecidableEq, Repr, Inhabited

/-- One operation with its operands. `c` is the header's colour bit, `x y x0 y0 x1 y1 r code` are operand words, `s` is the
payload of the framer operations (R93). -/
inductive Instr where
  /-- CLEAR.S / CLEAR.C (40_framebuffer.md R132). -/
  | clear (c : Colour)
  /-- POINT.S / POINT.C (R133). -/
  | point (c : Colour) (x y : Word16)
  /-- QUERY (R134). -/
  | query (x y : Word16)
  /-- SNAPSHOT (R135). -/
  | snapshot
  /-- LINE.S / LINE.C (41_rasterizer.md R161). -/
  | line (c : Colour) (x0 y0 x1 y1 : Word16)
  /-- CIRCLE.S / CIRCLE.C (R163). -/
  | circle (c : Colour) (x0 y0 r : Word16)
  /-- RECT.S / RECT.C (R165). -/
  | rect (c : Colour) (x0 y0 x1 y1 : Word16)
  /-- GLYPH.S / GLYPH.C (R168). -/
  | glyph (c : Colour) (x y code : Word16)
  /-- SENDCMD (42_framer.md R214). -/
  | sendCmd (s : List Byte)
  /-- SENDDATA (R215). -/
  | sendData (s : List Byte)
  /-- SENDCHUNKED (R216). -/
  | sendChunked (s : List Byte)
  /-- FLUSH (R217). -/
  | flush
deriving DecidableEq, Repr

end Sys2Proof
end

