-- ==== Sys2Proof/Machine/State.lean ====
section
/-! DEFINITION. The state of the block and of its host session as plain data (10_state.md R44, 60_exceptions.md R275), the
reasons a step can stop, and the state after reset, which is construction (70_reset_and_hazards.md R300). -/

namespace Sys2Proof.Machine

/-- Why a step stops with a fault. -/
inductive Fault where
  /-- A transport write or a reset-control call never returned, so the block makes no further step (70_reset_and_hazards.md
  R312, U17). Raised by `fetch` in every step of a stalled machine. Safe: nothing is claimed of such a run. -/
  | transportNeverReturns
deriving DecidableEq, Repr

/-- Why a step is refused. -/
inductive Refusal where
  /-- An instruction without a meaning yet, by its mnemonic; raised by `exec` alone. Safe. -/
  | notModelled (mnemonic : String)
  /-- `open` was asked for a configuration outside the legal values of 10_state.md R31: the model refuses to construct it
  (U7, U19, U20). Raised by `openCall`. Safe. -/
  | illegalConfig
deriving DecidableEq, Repr

/-- The framebuffer's bytes: the list of its non-zero bytes by rising index. An unlisted index reads `0x00`, the reset value
of R34 (log 19). -/
abbrev Mem := List Host.Cell

/-- What an `OK` result carries (60_exceptions.md R250). -/
inductive OkValue where
  /-- Nothing. -/
  | unit
  /-- QUERY's pixel bit. -/
  | pixel (v : BitVec 1)
  /-- SNAPSHOT's bytes. -/
  | bytes (bs : List Byte)
deriving DecidableEq, Repr

/-- The result of an operation (R250). -/
inductive Result where
  | ok (v : OkValue)
  | invalidInput
  | outOfRange
  /-- The index of the failing write within the operation, and the transport's error value (R253). -/
  | transportError (k : Nat) (e : IoError)
  | illegal
  | noInterface
deriving DecidableEq, Repr

/-- The two kinds of frame (42_framer.md R211). -/
inductive FrameKind where
  | cmd
  | data
deriving DecidableEq, Repr

/-- One `TxWrite(p, s)` with its outcome (10_state.md R42), and the bus address it was sent to (00_scope.md R14, R270; log 4). -/
structure TxEntry where
  addr : Nat
  pfx : Byte
  payload : List Byte
  outcome : IoOutcome
deriving DecidableEq, Repr

/-- The calls the session makes of the reset control (60_exceptions.md R273). There is one line, the one `open` was given, and
no call names its pin: DESIGN CHOICE (log 33). -/
inductive ResetCall where
  /-- `set_direction(out)` (log 17). -/
  | setDirectionOut
  /-- `set_value(1)` where `level` is true, `set_value(0)` where it is false. -/
  | setValue (level : Bool)
  /-- `release()`. -/
  | release
deriving DecidableEq, Repr

/-- What the reset control saw, in order (R273, R310). -/
inductive ResetEvent where
  | called (c : ResetCall) (o : IoOutcome)
  /-- The hold of at least 3 ms between the two `set_value` calls (R277, R310). -/
  | hold
deriving DecidableEq, Repr

/-- The session's states (R275). -/
inductive SessionState where
  | uninitialized
  | configured
  | active
  | flushing
  | closed
deriving DecidableEq, Repr

/-- The collaborators that `open` acquires (R274, R276). -/
inductive Resource where
  | resetControl
  | busTransport
deriving DecidableEq, Repr

/-- The result of a session call, which names the collaborator call that failed (R283). -/
inductive SessionResult where
  | ok
  /-- The result of the operation the call issued to the block (R278, R279, R281). -/
  | block (r : Result)
  /-- A reset-control call failed (R278, R281). -/
  | resetControl (c : ResetCall) (e : IoError)
  /-- `open` could not acquire a collaborator (R274). -/
  | acquire (what : Resource) (e : IoError)
deriving DecidableEq, Repr

/-- One answer the host receives: of an operation, or of a session call. -/
inductive Reply where
  | op (r : Result)
  | session (r : SessionResult)
deriving DecidableEq, Repr

/-- The session's calls (R276, R277, R279, R281). `open` takes the configuration, with `dimensions` and `bus_address` in it; its
third argument, `reset_pin`, is not represented: DESIGN CHOICE, the spec does not say where it goes (log 33). -/
inductive SessionCall where
  | openBlock (cfg : Config)
  | setup
  | draw
  | close
deriving DecidableEq, Repr

/-- One action of the host (R286). -/
inductive HostInput where
  /-- A transfer of a 16-bit descriptor port (30_encoding.md R96). -/
  | word (w : Word16)
  /-- A transfer of a byte-wide descriptor port (R96). -/
  | byte (b : Byte)
  | call (c : SessionCall)
  /-- A second host thread used the block while an operation was under way (60_exceptions.md R284(e)). -/
  | overlap
deriving DecidableEq, Repr

/-- The state. `cfg` to `session` are the spec's; `resetLog` to `stalled` are the model's own observations and inputs
(INVENTORY.md, State). -/
structure State where
  /-- The configuration, fixed at construction (R30, R31). -/
  cfg : Config
  /-- `FB` (R32). -/
  fb : Mem
  /-- `LIVE` (R39). -/
  live : Bool
  /-- The sticky mark `FAULT` (R41). -/
  fault : Bool
  /-- The sticky mark `OVERSIZE` (R41, R218). -/
  oversize : Bool
  /-- `TXLOG`, oldest first (R42). -/
  txLog : List TxEntry
  /-- The host session's state (R275). -/
  session : SessionState
  /-- What the reset control saw, oldest first (R273, R310; log 9). -/
  resetLog : List ResetEvent
  /-- The answers the host has received, oldest first; the block never reads them (R38; log 9). -/
  replies : List Reply
  /-- The host's actions not yet taken, oldest first (log 10). -/
  pending : List HostInput
  /-- Outcomes the collaborators have ready, taken before the free values (R271; log 6). -/
  script : List Draw
  /-- How many free values have been drawn (R271; log 6). -/
  draws : Nat
  /-- A collaborator's call never returned (R312; log 8). -/
  stalled : Bool
deriving DecidableEq, Repr

/-- The machine before `open`: no block exists, so `LIVE` is false (R39) and the session is Uninitialized (R275). The
configuration stands for none. -/
def State.unopened : State where
  cfg := Config.reference
  fb := []
  live := false
  fault := false
  oversize := false
  txLog := []
  session := .uninitialized
  resetLog := []
  replies := []
  pending := []
  script := []
  draws := 0
  stalled := false

/-- The machine after reset: the block constructed with the reference configuration (R300, R44), the session Configured
(R276), and nothing pending (R301). -/
def State.reset : State where
  cfg := Config.reference
  fb := []
  live := true
  fault := false
  oversize := false
  txLog := []
  session := .configured
  resetLog := []
  replies := []
  pending := []
  script := []
  draws := 0
  stalled := false

end Sys2Proof.Machine
end

