-- ==== Sys2Proof/Machine/Operands.lean ====
section
/-! DEFINITION. Operands and addressing: the value of an operand word (30_encoding.md R92), the sizes and the legality of a
configuration (00_scope.md R8 to R11, 10_state.md R31), pixel addressing (20_memory.md R61) and the glyph table (R35). -/

namespace Sys2Proof.Machine

/-- An operand's value, `zext(w)`, taken into the integers (R13, R92). -/
def operandInt (w : Word16) : Int := (w.toNat : Int)

/-- The number of pages, `P = H / 8` (R9). -/
def pageCount (cfg : Config) : Nat := cfg.h / 8

/-- The framebuffer's length in bytes, `NB = W * H / 8` (R9). -/
def fbSize (cfg : Config) : Nat := cfg.w * cfg.h / 8

/-- The four prefixes are pairwise distinct (R11, R104). -/
def pfxDistinct (cfg : Config) : Bool :=
  decide (cfg.pfxCmdSingle ≠ cfg.pfxCmdMulti) && decide (cfg.pfxCmdSingle ≠ cfg.pfxDataSingle) &&
  decide (cfg.pfxCmdSingle ≠ cfg.pfxDataMulti) && decide (cfg.pfxCmdMulti ≠ cfg.pfxDataSingle) &&
  decide (cfg.pfxCmdMulti ≠ cfg.pfxDataMulti) && decide (cfg.pfxDataSingle ≠ cfg.pfxDataMulti)

/-- A legal width or height: a multiple of 8 from 8 to 65528 (R8). -/
def sideLegal (n : Nat) : Bool := decide (n % 8 = 0) && decide (8 ≤ n) && decide (n ≤ 65528)

/-- A bring-up sequence has more than one byte (R277) and fits a SENDCMD (R93). -/
def bringUpLegal (s : List Byte) : Bool := decide (2 ≤ s.length) && decide (s.length ≤ 65535)

/-- The configuration keeps the "legal values" column of R31 (and R277 for the host's bring-up sequence). -/
def configLegal (cfg : Config) : Bool :=
  sideLegal cfg.w && sideLegal cfg.h && pfxDistinct cfg && decide (1 ≤ cfg.chunk) && decide (cfg.chunk ≤ cfg.maxXfer) &&
  bringUpLegal cfg.bringUpSeq

/-- `PixelIndex(x, y) = W * (y / 8) + x` (R61). -/
def pixelIndex (w x y : Nat) : Nat := w * (y / 8) + x

/-- `1 << PixelBit(x, y)`, a byte with exactly bit `y % 8` set (R61, R130). -/
def pixelMask (y : Nat) : Byte := 1 <<< (y % 8)

/-- `GLYPH[code][i]` (R35, R169). No caller passes a code above 127 or a column above 4 (R168). -/
def glyphByte (cfg : Config) (code i : Nat) : Byte := (cfg.glyph[code]?.getD (Vector.replicate 5 0))[i]?.getD 0

end Sys2Proof.Machine
end

