-- ==== Sys2Proof/Machine/Ops.lean ====
section
/-! DEFINITION. The named operations over the state: framebuffer bytes, the collaborators' calls, the marks, the answers to
the host, and issuing one operation. The block has no trap entry: an error is the operation's result (60_exceptions.md
R260), so answering is the one shared operation by which an operation ends, with or without an error. -/

namespace Sys2Proof.Machine

/-- `FB[i]` (R17). -/
def Mem.read (m : Mem) (i : Nat) : Byte :=
  match m with
  | [] => 0
  | (j, b) :: r => if i < j then 0 else if i = j then b else Mem.read r i

/-- `FB[i] <- v` (R17), in canonical form: a zero byte is not listed. -/
def Mem.write (m : Mem) (i : Nat) (v : Byte) : Mem :=
  match m with
  | [] => if v = 0 then [] else [(i, v)]
  | (j, b) :: r =>
    if i < j then (if v = 0 then (j, b) :: r else (i, v) :: (j, b) :: r)
    else if i = j then (if v = 0 then r else (i, v) :: r)
    else (j, b) :: Mem.write r i v

/-- Every byte of `FB[0 .. nb-1]` is `v` (R132). -/
def Mem.fill (nb : Nat) (v : Byte) : Mem := if v = 0 then [] else (List.range nb).map fun i => (i, v)

/-- The canonical form from index `lo` on: indices strictly rising and below `nb`, no zero byte listed. -/
def Mem.wfFrom (nb : Nat) (lo : Nat) (m : Mem) : Bool :=
  match m with
  | [] => true
  | (i, b) :: r => decide (lo ≤ i) && decide (i < nb) && decide (b ≠ 0) && Mem.wfFrom nb (i + 1) r

/-- The canonical form of a framebuffer of `nb` bytes. -/
def Mem.wf (nb : Nat) (m : Mem) : Bool := Mem.wfFrom nb 0 m

/-- `FB[0], FB[1], .., FB[nb-1]` in index order (20_memory.md R65). -/
def Mem.bytes (nb : Nat) (m : Mem) : List Byte := (List.range nb).map (Mem.read m)

/-- The snapshot of the whole framebuffer (40_framebuffer.md R135). -/
def State.snapshot (s : State) : List Byte := Mem.bytes (fbSize s.cfg) s.fb

/-- `FAULT <- set` (R41). -/
def State.markFault (s : State) : State := { s with fault := true }

/-- What the next collaborator call does: the oldest outcome the collaborators have ready, else a free value (R271; log 6). -/
def State.nextDraw (s : State) : Draw :=
  match s.script with
  | [] => Config.draw s.draws
  | d :: _ => d

/-- The draw is used up: the oldest ready outcome goes, or, where none is ready, the counter of free values advances. -/
def State.advanceDraw (s : State) : State :=
  { s with script := s.script.tail, draws := if s.script.isEmpty then s.draws + 1 else s.draws }

/-- A call that never returns: the block stalls (R312; log 8). -/
def State.stall (s : State) : State := { s with stalled := true }

/-- `TxWrite(p, s)` (60_exceptions.md R271): one transport call to `BUS_ADDR` (R14, R270), logged with its outcome. `none` where
it never returns. -/
def txWrite (p : Byte) (payload : List Byte) (s : State) : Option IoOutcome × State :=
  match s.nextDraw with
  | .returns o => (some o, { s.advanceDraw with txLog := s.txLog ++ [⟨s.cfg.busAddr, p, payload, o⟩] })
  | .never => (none, s.advanceDraw.stall)

/-- One call of the reset control (R273), logged with its outcome. `none` where it never returns. -/
def resetControl (c : ResetCall) (s : State) : Option IoOutcome × State :=
  match s.nextDraw with
  | .returns o => (some o, { s.advanceDraw with resetLog := s.resetLog ++ [.called c o] })
  | .never => (none, s.advanceDraw.stall)

/-- `set_direction(out)` of the reset control where the host calls it, and no call where it does not (R273; log 17). -/
def setDirection (due : Bool) (s : State) : Option IoOutcome × State :=
  if due then resetControl .setDirectionOut s else (some .ok, s)

/-- Acquiring one collaborator (R274, R276): no trace but its outcome. -/
def acquire (s : State) : Option IoOutcome × State :=
  match s.nextDraw with
  | .returns o => (some o, s.advanceDraw)
  | .never => (none, s.advanceDraw.stall)

/-- The host waits at least 3 ms with the reset line low (R277, R310). -/
def State.hold (s : State) : State := { s with resetLog := s.resetLog ++ [.hold] }

/-- The host receives one answer. -/
def State.reply (a : Reply) (s : State) : State := { s with replies := s.replies ++ [a] }

/-- The operation returns its result (R250), or, where a write never returned, none. -/
def State.answer (r : Option Result) (s : State) : State :=
  match r with
  | none => s
  | some r => s.reply (.op r)

/-- One operation issued to the block: while it lives, `body` runs to completion and its result is returned (R37); while it
does not, the mark FAULT is set and nothing else happens (R39, R41, R284(c)). -/
def issue (body : State → Option Result × State) (s : State) : Option Result × State :=
  if s.live then ((body s).1, (body s).2.answer (body s).1) else (none, s.markFault)

/-- The machine's outcome of one operation. -/
def runOp (body : State → Option Result × State) (s : State) : Host.Outcome State Fault Refusal := .next (issue body s).2

/-- An illegal descriptor: the result is ILLEGAL and nothing else changes (30_encoding.md R97, R254). -/
def illegalBody (s : State) : Option Result × State := (some .illegal, s)

end Sys2Proof.Machine
end

