-- ==== Sys2Proof/Machine/Framebuffer.lean ====
section
/-! DEFINITION. Framebuffer operations (40_framebuffer.md): Plot, ApplyMask, CLEAR, POINT, QUERY, SNAPSHOT. -/

namespace Sys2Proof.Machine

/-- A byte after a masked update: OR for SET, AND-NOT for CLR (R130, R131). -/
def maskByte (b m : Byte) (c : Colour) : Byte :=
  match c with
  | .set => b ||| m
  | .clr => b &&& ~~~m

/-- `ApplyMask(i, m, c)` (R131). -/
def applyMask (i : Nat) (m : Byte) (c : Colour) (fb : Mem) : Mem := Mem.write fb i (maskByte (Mem.read fb i) m c)

/-- `(x, y)` is on the grid (20_memory.md R63). -/
abbrev inGrid (w h : Nat) (x y : Int) : Prop := (0 ≤ x ∧ x < (w : Int)) ∧ (0 ≤ y ∧ y < (h : Int))

/-- `Plot(x, y, c)` (R130). -/
def plot (w h : Nat) (c : Colour) (fb : Mem) (p : Int × Int) : Mem :=
  if inGrid w h p.1 p.2 then applyMask (pixelIndex w p.1.toNat p.2.toNat) (pixelMask p.2.toNat) c fb else fb

/-- `Paint(S, c)`: plot every point of the list in order (41_rasterizer.md R160). -/
def paint (w h : Nat) (c : Colour) (pts : List (Int × Int)) (fb : Mem) : Mem := pts.foldl (plot w h c) fb

/-- The framebuffer of a state after painting. -/
def State.paint (c : Colour) (pts : List (Int × Int)) (s : State) : State :=
  { s with fb := Machine.paint s.cfg.w s.cfg.h c pts s.fb }

/-- The pixel bit `(FB[i] >> (y % 8)) & 1` of an in-range pixel, `i = W*(y/8)+x` (R134). -/
def pixelAt (w : Nat) (fb : Mem) (x y : Nat) : BitVec 1 := (Mem.read fb (pixelIndex w x y)).extractLsb' (y % 8) 1

/-- The byte CLEAR fills with (R132). -/
def fillByte : Colour → Byte
  | .set => 0xFF
  | .clr => 0x00

/-- CLEAR (R132). -/
def clearBody (c : Colour) (s : State) : Option Result × State :=
  (some (.ok .unit), { s with fb := Mem.fill (fbSize s.cfg) (fillByte c) })

/-- POINT (R133). -/
def pointBody (c : Colour) (x y : Word16) (s : State) : Option Result × State :=
  (some (.ok .unit), s.paint c [(operandInt x, operandInt y)])

/-- QUERY (R134): the pixel's bit, or OUT_OF_RANGE. -/
def queryBody (x y : Word16) (s : State) : Option Result × State :=
  (some (if x.toNat < s.cfg.w ∧ y.toNat < s.cfg.h then .ok (.pixel (pixelAt s.cfg.w s.fb x.toNat y.toNat)) else .outOfRange), s)

/-- SNAPSHOT (R135). -/
def snapshotBody (s : State) : Option Result × State := (some (.ok (.bytes s.snapshot)), s)

/-- CLEAR.S / CLEAR.C (R132). -/
def execClear (c : Colour) (s : State) : Host.Outcome State Fault Refusal := runOp (clearBody c) s

/-- POINT.S / POINT.C (R133). -/
def execPoint (c : Colour) (x y : Word16) (s : State) : Host.Outcome State Fault Refusal := runOp (pointBody c x y) s

/-- QUERY (R134). -/
def execQuery (x y : Word16) (s : State) : Host.Outcome State Fault Refusal := runOp (queryBody x y) s

/-- SNAPSHOT (R135). -/
def execSnapshot (s : State) : Host.Outcome State Fault Refusal := runOp snapshotBody s

end Sys2Proof.Machine
end

