-- ==== Sys2Proof/Machine/Framer.lean ====
section
/-! DEFINITION. Command framer operations (42_framer.md): prefix selection, frames, chunks, SENDCMD, SENDDATA, SENDCHUNKED
and FLUSH. The framer holds no state (R210). -/

namespace Sys2Proof.Machine

/-- `SelectPrefix(kind, n)` (R211, R103). -/
def selectPfx (cfg : Config) (kind : FrameKind) (n : Nat) : Byte :=
  match kind with
  | .cmd => if n = 1 then cfg.pfxCmdSingle else cfg.pfxCmdMulti
  | .data => if n = 1 then cfg.pfxDataSingle else cfg.pfxDataMulti

/-- The mark OVERSIZE of a frame longer than `MAX_XFER` (R218). -/
def State.noteLength (n : Nat) (s : State) : State := { s with oversize := s.oversize || decide (n > s.cfg.maxXfer) }

/-- `SendFrame(kind, s)` (R212): one transport write; a frame too long is still sent (R218). -/
def sendFrame (kind : FrameKind) (payload : List Byte) (s : State) : Option IoOutcome × State :=
  txWrite (selectPfx s.cfg kind payload.length) payload (s.noteLength payload.length)

/-- `Chunks(s)`: slice `k` is `s[k*CHUNK : min((k+1)*CHUNK, n)]`, for `k` below `ceil(n / CHUNK)` (R213). -/
def chunks (chunk : Nat) (s : List Byte) : List (List Byte) :=
  (List.range ((s.length + chunk - 1) / chunk)).map fun k => (s.drop (k * chunk)).take chunk

/-- The frames of one operation in order, from write index `k` on, stopping at the first write that fails (R216, R217, R220)
or that never returns (R312). -/
def sendAll (kind : FrameKind) (k : Nat) (frames : List (List Byte)) (s : State) : Option Result × State :=
  match frames with
  | [] => (some (.ok .unit), s)
  | p :: rest =>
    match (sendFrame kind p s).1 with
    | none => (none, (sendFrame kind p s).2)
    | some (.err e) => (some (.transportError k e), (sendFrame kind p s).2)
    | some .ok => sendAll kind (k + 1) rest (sendFrame kind p s).2

/-- Without an interface the framer returns NO_INTERFACE and issues no write (R219). -/
def withInterface (body : State → Option Result × State) (s : State) : Option Result × State :=
  match s.cfg.iface with
  | .none => (some .noInterface, s)
  | .bus => body s

/-- SENDCMD (R214): one command frame, write index 0. -/
def sendCmdBody (payload : List Byte) (s : State) : Option Result × State := withInterface (sendAll .cmd 0 [payload]) s

/-- SENDDATA (R215): one data frame, write index 0. -/
def sendDataBody (payload : List Byte) (s : State) : Option Result × State := withInterface (sendAll .data 0 [payload]) s

/-- SENDCHUNKED (R216): data frames of at most `CHUNK` bytes. -/
def sendChunkedBody (payload : List Byte) (s : State) : Option Result × State :=
  withInterface (sendAll .data 0 (chunks s.cfg.chunk payload)) s

/-- FLUSH (R217): the snapshot taken at the start, in data frames of at most `CHUNK` bytes. -/
def flushBody (s : State) : Option Result × State := withInterface (sendAll .data 0 (chunks s.cfg.chunk s.snapshot)) s

/-- The bytes one write hands to the transport: the prefix first, then the payload (20_memory.md R66, R102).
The address goes beside them; its bytes are the transport's own (R66). -/
def TxEntry.onBus (t : TxEntry) : List Byte := t.pfx :: t.payload

/-- SENDCMD (R214). -/
def execSendCmd (payload : List Byte) (s : State) : Host.Outcome State Fault Refusal := runOp (sendCmdBody payload) s

/-- SENDDATA (R215). -/
def execSendData (payload : List Byte) (s : State) : Host.Outcome State Fault Refusal := runOp (sendDataBody payload) s

/-- SENDCHUNKED (R216). -/
def execSendChunked (payload : List Byte) (s : State) : Host.Outcome State Fault Refusal := runOp (sendChunkedBody payload) s

/-- FLUSH (R217). -/
def execFlush (s : State) : Host.Outcome State Fault Refusal := runOp flushBody s

end Sys2Proof.Machine
end

