-- ==== Sys2Proof/Machine/Rasterizer.lean ====
section
/-! DEFINITION. Rasterizer operations (41_rasterizer.md): LINE, CIRCLE, RECT and GLYPH, each the list of the points its
pseudocode plots, in order, painted in one colour (R160). All arithmetic is exact (00_scope.md R13). -/

namespace Sys2Proof.Machine

/-- LINE's local variables `x, y, e` (10_state.md R40). -/
structure LineVars where
  x : Int
  y : Int
  e : Int
deriving DecidableEq, Repr

/-- What LINE computes before its loop (R161). -/
structure LineSetup where
  x1 : Int
  y1 : Int
  dx : Int
  dy : Int
  sx : Int
  sy : Int
deriving DecidableEq, Repr

/-- The step sign of R161: `+1` where `a < b`, else `-1`. -/
def stepSign (a b : Int) : Int := if a < b then 1 else -1

/-- `dx, dy, sx, sy` and the endpoint (R161). -/
def lineSetup (x0 y0 x1 y1 : Int) : LineSetup where
  x1 := x1
  y1 := y1
  dx := ((x1 - x0).natAbs : Int)
  dy := ((y1 - y0).natAbs : Int)
  sx := stepSign x0 x1
  sy := stepSign y0 y1

/-- The two updates of R161, both decided by the error before either update, `e2`. -/
def lineStep (g : LineSetup) (v : LineVars) : LineVars where
  x := if 2 * v.e > -g.dy then v.x + g.sx else v.x
  y := if 2 * v.e < g.dx then v.y + g.sy else v.y
  e := v.e + (if 2 * v.e > -g.dy then -g.dy else 0) + (if 2 * v.e < g.dx then g.dx else 0)

/-- LINE's loop, at most `n` more rounds after this one (R161). -/
def lineLoop (g : LineSetup) (n : Nat) (v : LineVars) : List (Int × Int) :=
  match n with
  | 0 => [(v.x, v.y)]
  | n + 1 => (v.x, v.y) :: (if v.x = g.x1 ∧ v.y = g.y1 then [] else lineLoop g n (lineStep g v))

/-- The points LINE plots, in order (R161). The loop plots `max(dx, dy) + 1` points (R162(a)), so it is given
`max(dx, dy)` further rounds (log 20). -/
def linePoints (x0 y0 x1 y1 : Int) : List (Int × Int) :=
  let g := lineSetup x0 y0 x1 y1
  lineLoop g (max g.dx g.dy).toNat ⟨x0, y0, g.dx - g.dy⟩

/-- CIRCLE's local variables (R40, R163). -/
structure CircleVars where
  f : Int
  ddFx : Int
  ddFy : Int
  x : Int
  y : Int
deriving DecidableEq, Repr

/-- CIRCLE's variables before its loop (R163). -/
def circleStart (r : Int) : CircleVars := ⟨1 - r, 1, -2 * r, 0, r⟩

/-- The first half of a round: `y` goes down where `f >= 0` (R163). -/
def circleStepY (v : CircleVars) : CircleVars :=
  if v.f ≥ 0 then { v with y := v.y - 1, ddFy := v.ddFy + 2, f := v.f + (v.ddFy + 2) } else v

/-- The second half of a round: `x` goes up (R163). -/
def circleStepX (v : CircleVars) : CircleVars := { v with x := v.x + 1, ddFx := v.ddFx + 2, f := v.f + (v.ddFx + 2) }

/-- The four extrema (R163). -/
def circleExtrema (x0 y0 r : Int) : List (Int × Int) := [(x0, y0 + r), (x0, y0 - r), (x0 + r, y0), (x0 - r, y0)]

/-- The eight octant points (R163). -/
def circleOctants (x0 y0 x y : Int) : List (Int × Int) :=
  [(x0 + x, y0 + y), (x0 - x, y0 + y), (x0 + x, y0 - y), (x0 - x, y0 - y),
   (x0 + y, y0 + x), (x0 - y, y0 + x), (x0 + y, y0 - x), (x0 - y, y0 - x)]

/-- CIRCLE's loop, at most `n` rounds (R163). -/
def circleLoop (x0 y0 : Int) (n : Nat) (v : CircleVars) : List (Int × Int) :=
  match n with
  | 0 => []
  | n + 1 =>
    if v.x < v.y then
      let u := circleStepX (circleStepY v)
      circleOctants x0 y0 u.x u.y ++ circleLoop x0 y0 n u
    else []

/-- The points CIRCLE plots, in order (R163). The loop ends after at most `r` rounds (R164(c); log 21). -/
def circlePoints (x0 y0 : Int) (r : Nat) : List (Int × Int) :=
  circleExtrema x0 y0 r ++ circleLoop x0 y0 r (circleStart r)

/-- The integers `a .. b` in order, none where `a > b` (00_scope.md R16). -/
def natsFromTo (a b : Nat) : List Nat := List.range' a (b + 1 - a)

/-- The points RECT plots, in order (R165). -/
def rectPoints (x0 y0 x1 y1 : Nat) : List (Int × Int) :=
  if x0 > x1 ∨ y0 > y1 then []
  else (natsFromTo y0 y1).flatMap fun y => (natsFromTo x0 x1).map fun x => ((x : Int), (y : Int))

/-- The points GLYPH plots, in order: column `i`, then row `k`, where bit `k` of the column byte is set and the column is
on the grid (R168, R169). -/
def glyphPoints (cfg : Config) (x y code : Nat) : List (Int × Int) :=
  (List.range 5).flatMap fun i =>
    if x + i ≥ cfg.w then []
    else ((List.range 8).filter fun k => (glyphByte cfg code i).getLsbD k).map fun k => (((x + i : Nat) : Int), ((y + k : Nat) : Int))

/-- LINE (R161). -/
def lineBody (c : Colour) (x0 y0 x1 y1 : Word16) (s : State) : Option Result × State :=
  (some (.ok .unit), s.paint c (linePoints (operandInt x0) (operandInt y0) (operandInt x1) (operandInt y1)))

/-- CIRCLE (R163). -/
def circleBody (c : Colour) (x0 y0 r : Word16) (s : State) : Option Result × State :=
  (some (.ok .unit), s.paint c (circlePoints (operandInt x0) (operandInt y0) r.toNat))

/-- RECT (R165). -/
def rectBody (c : Colour) (x0 y0 x1 y1 : Word16) (s : State) : Option Result × State :=
  (some (.ok .unit), s.paint c (rectPoints x0.toNat y0.toNat x1.toNat y1.toNat))

/-- GLYPH's rejection (R168, R251). -/
abbrev glyphRejects (cfg : Config) (x y code : Nat) : Prop := code > 127 ∨ x ≥ cfg.w ∨ y ≥ cfg.h

/-- GLYPH (R168): INVALID_INPUT with nothing written, or the cell. -/
def glyphBody (c : Colour) (x y code : Word16) (s : State) : Option Result × State :=
  if glyphRejects s.cfg x.toNat y.toNat code.toNat then (some .invalidInput, s)
  else (some (.ok .unit), s.paint c (glyphPoints s.cfg x.toNat y.toNat code.toNat))

/-- LINE.S / LINE.C (R161). -/
def execLine (c : Colour) (x0 y0 x1 y1 : Word16) (s : State) : Host.Outcome State Fault Refusal :=
  runOp (lineBody c x0 y0 x1 y1) s

/-- CIRCLE.S / CIRCLE.C (R163). -/
def execCircle (c : Colour) (x0 y0 r : Word16) (s : State) : Host.Outcome State Fault Refusal := runOp (circleBody c x0 y0 r) s

/-- RECT.S / RECT.C (R165). -/
def execRect (c : Colour) (x0 y0 x1 y1 : Word16) (s : State) : Host.Outcome State Fault Refusal :=
  runOp (rectBody c x0 y0 x1 y1) s

/-- GLYPH.S / GLYPH.C (R168). -/
def execGlyph (c : Colour) (x y code : Word16) (s : State) : Host.Outcome State Fault Refusal := runOp (glyphBody c x y code) s

end Sys2Proof.Machine
end

