-- ==== Sys2Proof/Machine/Dispatch.lean ====
section
/-! DEFINITION. One arm per operation of the opcode map (30_encoding.md R94). -/

namespace Sys2Proof.Machine

/-- What an operation does. -/
def exec (i : Instr) (s : State) : Host.Outcome State Fault Refusal :=
  match i with
  | .clear c => Sys2Proof.Machine.execClear c s
  | .point c x y => Sys2Proof.Machine.execPoint c x y s
  | .query x y => Sys2Proof.Machine.execQuery x y s
  | .snapshot => Sys2Proof.Machine.execSnapshot s
  | .line c x0 y0 x1 y1 => Sys2Proof.Machine.execLine c x0 y0 x1 y1 s
  | .circle c x0 y0 r => Sys2Proof.Machine.execCircle c x0 y0 r s
  | .rect c x0 y0 x1 y1 => Sys2Proof.Machine.execRect c x0 y0 x1 y1 s
  | .glyph c x y code => Sys2Proof.Machine.execGlyph c x y code s
  | .sendCmd payload => Sys2Proof.Machine.execSendCmd payload s
  | .sendData payload => Sys2Proof.Machine.execSendData payload s
  | .sendChunked payload => Sys2Proof.Machine.execSendChunked payload s
  | .flush => Sys2Proof.Machine.execFlush s

end Sys2Proof.Machine
end

