-- ==== Sys2Proof/WellFormed.lean ====
section
/-! DEFINITION. Which instructions have a descriptor: every operand value is legal (30_encoding.md R98), and a payload's
length fits the length word, `0 .. 65535` (R93). -/

namespace Sys2Proof

/-- A payload's length fits the 16-bit length word `LEN` (R93). -/
def payloadFits (s : List Byte) : Bool := decide (s.length ≤ 65535)

/-- The instruction can be written as a descriptor (R93, R98). -/
def Instr.wellFormed : Instr → Bool
  | .clear _ => true
  | .point _ _ _ => true
  | .query _ _ => true
  | .snapshot => true
  | .line _ _ _ _ _ => true
  | .circle _ _ _ _ => true
  | .rect _ _ _ _ _ => true
  | .glyph _ _ _ _ => true
  | .sendCmd s => payloadFits s
  | .sendData s => payloadFits s
  | .sendChunked s => payloadFits s
  | .flush => true

end Sys2Proof
end

