-- ==== Sys2Proof/Decode.lean ====
section
/-! DEFINITION. The decoder of command descriptors, total on any list of words, rejecting by name, and the encoder
(30_encoding.md R90 to R99). -/

namespace Sys2Proof

/-- The twelve operation codes of the opcode map (R94). -/
inductive Opcode where
  | clear | point | query | snapshot | line | circle | rect | glyph | sendCmd | sendData | sendChunked | flush
deriving DecidableEq, Repr

/-- The case of R97 by which a descriptor is illegal, (a) to (d) in this order. -/
inductive IllegalReason where
  /-- (a) `OPC` is not in the opcode map. -/
  | reservedOpcode
  /-- (b) `RSV` is not 0. -/
  | reservedBits
  /-- (c) `C = 1` on an opcode that uses no colour. -/
  | colourBit
  /-- (d) `LEN` is odd and the pad byte is not `0x00`. -/
  | padByte
deriving DecidableEq, Repr

/-- What the decoder reads at the front of a word stream; `n` is the descriptor's length in words (R95). -/
inductive Decoded where
  | instr (i : Instr) (n : Nat)
  | illegal (why : IllegalReason) (n : Nat)
  /-- The words of the descriptor have not all arrived. -/
  | incomplete
deriving DecidableEq, Repr

/-- `OPC = w0[7:0]` (R91). -/
def opcBits (w0 : Word16) : Byte := w0.extractLsb' 0 8

/-- `C = w0[8]` (R91). -/
def colourBit (w0 : Word16) : BitVec 1 := w0.extractLsb' 8 1

/-- `RSV = w0[15:9]` (R91). -/
def rsvBits (w0 : Word16) : BitVec 7 := w0.extractLsb' 9 7

/-- The low byte of a word, `w[7:0]`. -/
def loByte (w : Word16) : Byte := w.extractLsb' 0 8

/-- The high byte of a word, `w[15:8]`. -/
def hiByte (w : Word16) : Byte := w.extractLsb' 8 8

/-- The word with the given high and low bytes. -/
def wordOf (hi lo : Byte) : Word16 := hi ++ lo

/-- The opcode numbers of R94. -/
def Opcode.toByte : Opcode → Byte
  | .clear => 0x01
  | .point => 0x02
  | .query => 0x03
  | .snapshot => 0x04
  | .line => 0x10
  | .circle => 0x11
  | .rect => 0x12
  | .glyph => 0x13
  | .sendCmd => 0x20
  | .sendData => 0x21
  | .sendChunked => 0x22
  | .flush => 0x23

/-- The opcode map read from the number's side (R94); every other number is reserved (R98). -/
def Opcode.ofByte (b : Byte) : Option Opcode :=
  if b = 0x01 then some .clear
  else if b = 0x02 then some .point
  else if b = 0x03 then some .query
  else if b = 0x04 then some .snapshot
  else if b = 0x10 then some .line
  else if b = 0x11 then some .circle
  else if b = 0x12 then some .rect
  else if b = 0x13 then some .glyph
  else if b = 0x20 then some .sendCmd
  else if b = 0x21 then some .sendData
  else if b = 0x22 then some .sendChunked
  else if b = 0x23 then some .flush
  else none

/-- The "C used" column of R94. -/
def Opcode.usesColour : Opcode → Bool
  | .clear => true
  | .point => true
  | .query => false
  | .snapshot => false
  | .line => true
  | .circle => true
  | .rect => true
  | .glyph => true
  | .sendCmd => false
  | .sendData => false
  | .sendChunked => false
  | .flush => false

/-- The opcodes that carry a payload (R93). -/
def Opcode.hasPayload : Opcode → Bool
  | .sendCmd => true
  | .sendData => true
  | .sendChunked => true
  | .clear => false
  | .point => false
  | .query => false
  | .snapshot => false
  | .line => false
  | .circle => false
  | .rect => false
  | .glyph => false
  | .flush => false

/-- `2 + ceil(LEN / 2)`, the words of a payload descriptor (R95). -/
def payloadDescriptorWords (len : Nat) : Nat := 2 + (len + 1) / 2

/-- The "total words" column of R94, given the words after `w0`; `none` where the length word has not arrived. -/
def Opcode.totalWords (op : Opcode) (rest : List Word16) : Option Nat :=
  match op with
  | .clear => some 1
  | .point => some 3
  | .query => some 3
  | .snapshot => some 1
  | .line => some 5
  | .circle => some 4
  | .rect => some 5
  | .glyph => some 4
  | .sendCmd => rest.head?.map fun len => payloadDescriptorWords len.toNat
  | .sendData => rest.head?.map fun len => payloadDescriptorWords len.toNat
  | .sendChunked => rest.head?.map fun len => payloadDescriptorWords len.toNat
  | .flush => some 1

/-- The bytes of payload words in order: the low byte of each word first (R93, R99). -/
def unpackWords : List Word16 → List Byte
  | [] => []
  | w :: ws => loByte w :: hiByte w :: unpackWords ws

/-- Payload words of a byte sequence, the last padded with `0x00` where the length is odd (R93). -/
def packBytes : List Byte → List Word16
  | [] => []
  | [b] => [wordOf 0 b]
  | b0 :: b1 :: bs => wordOf b1 b0 :: packBytes bs

/-- The payload length of the words after `w0`, their first word (R93). -/
def payloadLen (rest : List Word16) : Nat := (rest.headD 0).toNat

/-- The payload words, `w2 ..`: the first `ceil(LEN / 2)` words after the length word (R93). -/
def payloadWords (rest : List Word16) : List Word16 := (rest.drop 1).take ((payloadLen rest + 1) / 2)

/-- The payload `s` of the words after `w0` (R99). -/
def payloadOf (rest : List Word16) : List Byte := (unpackWords (payloadWords rest)).take (payloadLen rest)

/-- Case (d) of R97: the length is odd and the byte after the payload's last is not `0x00`. -/
def padByteBad (op : Opcode) (rest : List Word16) : Bool :=
  op.hasPayload && decide (payloadLen rest % 2 = 1) && decide ((unpackWords (payloadWords rest)).getD (payloadLen rest) 0 ≠ 0)

/-- The colour of a header bit: `C = 1` is SET (R91). -/
def Colour.ofBit (b : BitVec 1) : Colour := if b = 1 then .set else .clr

/-- The header bit of a colour (R91). -/
def Colour.toBit : Colour → BitVec 1
  | .set => 1
  | .clr => 0

/-- Operand word `w(k+1)`, counted from 0 after the header (R92). -/
def operandWord (rest : List Word16) (k : Nat) : Word16 := rest.getD k 0

/-- The instruction of an opcode, its colour bit and the words after the header, in the operand order of R94. -/
def Opcode.build (op : Opcode) (c : Colour) (rest : List Word16) : Instr :=
  match op with
  | .clear => .clear c
  | .point => .point c (operandWord rest 0) (operandWord rest 1)
  | .query => .query (operandWord rest 0) (operandWord rest 1)
  | .snapshot => .snapshot
  | .line => .line c (operandWord rest 0) (operandWord rest 1) (operandWord rest 2) (operandWord rest 3)
  | .circle => .circle c (operandWord rest 0) (operandWord rest 1) (operandWord rest 2)
  | .rect => .rect c (operandWord rest 0) (operandWord rest 1) (operandWord rest 2) (operandWord rest 3)
  | .glyph => .glyph c (operandWord rest 0) (operandWord rest 1) (operandWord rest 2)
  | .sendCmd => .sendCmd (payloadOf rest)
  | .sendData => .sendData (payloadOf rest)
  | .sendChunked => .sendChunked (payloadOf rest)
  | .flush => .flush

/-- The descriptor at the front of a word stream: its length by R95, then the checks of R97 in the order (a) to (d). The
checks (b) to (d) wait until all the descriptor's words have arrived (log 26). -/
def decode (ws : List Word16) : Decoded :=
  match ws with
  | [] => .incomplete
  | w0 :: rest =>
    match Opcode.ofByte (opcBits w0) with
    | none => .illegal .reservedOpcode 1
    | some op =>
      match op.totalWords rest with
      | none => .incomplete
      | some n =>
        if rest.length + 1 < n then .incomplete
        else if rsvBits w0 ≠ 0 then .illegal .reservedBits n
        else if colourBit w0 = 1 ∧ op.usesColour = false then .illegal .colourBit n
        else if padByteBad op rest then .illegal .padByte n
        else .instr (op.build (Colour.ofBit (colourBit w0)) rest) n

/-- The header word: `RSV = 0`, the colour bit, the opcode (R91). -/
def headerWord (op : Opcode) (c : BitVec 1) : Word16 := (0 : BitVec 7) ++ c ++ op.toByte

/-- The words after the header of a payload opcode: `LEN`, then the packed bytes (R93). -/
def payloadOperands (s : List Byte) : List Word16 := BitVec.ofNat 16 s.length :: packBytes s

/-- The descriptor of an instruction (R91 to R94). -/
def encode : Instr → List Word16
  | .clear c => [headerWord .clear c.toBit]
  | .point c x y => [headerWord .point c.toBit, x, y]
  | .query x y => [headerWord .query 0, x, y]
  | .snapshot => [headerWord .snapshot 0]
  | .line c x0 y0 x1 y1 => [headerWord .line c.toBit, x0, y0, x1, y1]
  | .circle c x0 y0 r => [headerWord .circle c.toBit, x0, y0, r]
  | .rect c x0 y0 x1 y1 => [headerWord .rect c.toBit, x0, y0, x1, y1]
  | .glyph c x y code => [headerWord .glyph c.toBit, x, y, code]
  | .sendCmd s => headerWord .sendCmd 0 :: payloadOperands s
  | .sendData s => headerWord .sendData 0 :: payloadOperands s
  | .sendChunked s => headerWord .sendChunked 0 :: payloadOperands s
  | .flush => [headerWord .flush 0]

/-- Word `k` of a number whose bits are laid out as spec/opcode_table.json numbers them: word 0 is bits 15..0. -/
def tableWord (w k : Nat) : Word16 := BitVec.ofNat 16 (w >>> (16 * k))

/-- The length in words of the descriptor whose table number is `w` (R95); a reserved opcode is one word long. -/
def tableLength (w : Nat) : Nat :=
  match Opcode.ofByte (opcBits (tableWord w 0)) with
  | none => 1
  | some op => (op.totalWords [tableWord w 1]).getD 1

/-- The descriptor whose lowest `nbits` bits are `w` and whose other bits are 0, as a list of words. -/
def tableWords (nbits w : Nat) : List Word16 :=
  (List.range (tableLength (w % 2 ^ nbits))).map (tableWord (w % 2 ^ nbits))

/-- The instruction the decoder reads from the descriptor whose bits are `w`, numbered as spec/opcode_table.json does. -/
def decodeTableWord (nbits w : Nat) : Option Instr :=
  match decode (tableWords nbits w) with
  | .instr i _ => some i
  | .illegal _ _ => none
  | .incomplete => none

end Sys2Proof
end

