-- ==== Sys2Proof/Machine/Port.lean ====
section
/-! DEFINITION. The host's pending actions and the descriptor port (30_encoding.md R90, R95, R96): which words stand at the
front, taking them off, and what the next step is asked to do. -/

namespace Sys2Proof.Machine

/-- The words at the front of the pending actions of a 16-bit port, up to the first action that is no word (R96). -/
def leadingWords : List HostInput → List Word16
  | .word w :: r => w :: leadingWords r
  | _ => []

/-- The bytes at the front of the pending actions of a byte-wide port, up to the first action that is no byte (R96). -/
def leadingBytes : List HostInput → List Byte
  | .byte b :: r => b :: leadingBytes r
  | _ => []

/-- Words from bytes, the low byte of each first (R96); an odd last byte waits for its high byte. -/
def assembleWords : List Byte → List Word16
  | lo :: hi :: r => wordOf hi lo :: assembleWords r
  | _ => []

/-- The descriptor words that have arrived at the port (R90, R96). -/
def portWords (p : DescPort) (q : List HostInput) : List Word16 :=
  match p with
  | .wordWide => leadingWords q
  | .byteWide => assembleWords (leadingBytes q)

/-- How many pending actions at the front are transfers of this port (R96). -/
def portTransfers (p : DescPort) (q : List HostInput) : Nat :=
  match p with
  | .wordWide => (leadingWords q).length
  | .byteWide => (leadingBytes q).length

/-- How many transfers carry `n` words (R96). -/
def transfersOf (p : DescPort) (n : Nat) : Nat :=
  match p with
  | .wordWide => n
  | .byteWide => 2 * n

/-- The transfers that carry one word: the word whole, or its low byte and then its high byte (R96). -/
def wordTransfers (p : DescPort) (w : Word16) : List HostInput :=
  match p with
  | .wordWide => [.word w]
  | .byteWide => [.byte (loByte w), .byte (hiByte w)]

/-- The transfers that carry a descriptor (R95: no gap and no separator). -/
def sendWords (p : DescPort) (ws : List Word16) : List HostInput := ws.flatMap (wordTransfers p)

/-- The first `n` pending actions are taken. -/
def State.take (n : Nat) (s : State) : State := { s with pending := s.pending.drop n }

/-- The descriptor at the front has not all arrived. Where nothing but transfers is pending, the block waits; where another
action cuts the descriptor off, the cut-off transfers are dropped and FAULT is set (log 11). -/
def awaitWords (s : State) : State :=
  if portTransfers s.cfg.descPort s.pending = s.pending.length then s
  else (s.take (max 1 (portTransfers s.cfg.descPort s.pending))).markFault

/-- What the next step is asked to do, with the state after the action was taken off. -/
inductive Fetched where
  /-- The machine is stalled (R312). -/
  | stuck (f : Fault)
  /-- The step is over: nothing pending, a waiting or broken-off descriptor, an illegal descriptor, an overlapping use. -/
  | settled (t : State)
  | call (c : SessionCall) (t : State)
  | instr (i : Instr) (t : State)
deriving DecidableEq, Repr

/-- The descriptor at the front of the port (R95, R97). -/
def fetchDescriptor (s : State) : Fetched :=
  match decode (portWords s.cfg.descPort s.pending) with
  | .instr i n => .instr i (s.take (transfersOf s.cfg.descPort n))
  | .illegal _ n => .settled (issue illegalBody (s.take (transfersOf s.cfg.descPort n))).2
  | .incomplete => .settled (awaitWords s)

/-- The next action of the host: one operation or one call at a time, in the order issued (R37, R74). -/
def fetch (s : State) : Fetched :=
  if s.stalled then .stuck .transportNeverReturns
  else
    match s.pending with
    | [] => .settled s
    | .call c :: _ => .call c (s.take 1)
    | .overlap :: _ => .settled (s.take 1).markFault
    | .word _ :: _ => fetchDescriptor s
    | .byte _ :: _ => fetchDescriptor s

/-- The state with the descriptor whose lowest `nbits` bits are `w` at the front of the pending actions. -/
def State.withDescriptor (s : State) (nbits w : Nat) : State :=
  { s with pending := sendWords s.cfg.descPort (tableWords nbits w) ++ s.pending }

end Sys2Proof.Machine
end

