-- ==== Sys2Proof/Machine/Session.lean ====
section
/-! DEFINITION. The host session's calls open, setup, draw and close (60_exceptions.md R275 to R284) and construction, the
block's only reset (70_reset_and_hazards.md R300). A call that breaks the host contract sets FAULT and has no other effect
(R284). -/

namespace Sys2Proof.Machine

/-- `Construct(cfg)` (R300); the session becomes Configured (R276). The host's side of the state is not the block's and stays. -/
def construct (cfg : Config) (s : State) : State :=
  { s with cfg := cfg, fb := [], txLog := [], fault := false, oversize := false, live := true, session := .configured }

/-- A session call returns its result to its caller. -/
def State.returns (r : SessionResult) (s : State) : State := s.reply (.session r)

/-- `open` acquires the bus transport last; with both collaborators the block is constructed (R274, R276). Where the transport
cannot be acquired, the reset control acquired before is not released: DESIGN CHOICE, the spec is silent (log 31). -/
def openTransport (cfg : Config) (s : State) : State :=
  match (acquire s).1 with
  | none => (acquire s).2
  | some (.err e) => (acquire s).2.returns (.acquire .busTransport e)
  | some .ok => (construct cfg (acquire s).2).returns .ok

/-- `open` sets the direction of the acquired reset line where the host does so here; a failure is fatal to `open`, and the reset
control is not released (R273; log 17, log 31). -/
def openDirection (cfg : Config) (s : State) : State :=
  let dir := setDirection cfg.dirInOpen s
  match dir.1 with
  | none => dir.2
  | some (.err e) => dir.2.returns (.resetControl .setDirectionOut e)
  | some .ok => openTransport cfg dir.2

/-- `open` acquires the reset control first (R274, R276; log 16). -/
def openCollaborators (cfg : Config) (s : State) : State :=
  match (acquire s).1 with
  | none => (acquire s).2
  | some (.err e) => (acquire s).2.returns (.acquire .resetControl e)
  | some .ok => openDirection cfg (acquire s).2

/-- `open(dimensions, bus_address, reset_pin)` (R276; `reset_pin`: log 33): in Uninitialized, with a legal configuration (R31); in another state
it has no meaning, so FAULT (R41; log 16). -/
def openCall (cfg : Config) (s : State) : Host.Outcome State Fault Refusal :=
  if s.session = .uninitialized then
    (if configLegal cfg then .next (openCollaborators cfg s) else .refused .illegalConfig)
  else .next s.markFault

/-- The end of `setup`: the bring-up sequence as one command frame, then Active (R277); a result other than OK is returned
and the session stays Configured (R278; log 15). -/
def setupBringUp (s : State) : State :=
  let sent := issue (sendCmdBody s.cfg.bringUpSeq) s
  match sent.1 with
  | none => sent.2
  | some (.ok _) => { sent.2 with session := .active }.returns .ok
  | some r => sent.2.returns (.block r)

/-- `setup` after the line went low: hold, drive it high, go on (R277, R278). -/
def setupRelease (s : State) : State :=
  let high := resetControl (.setValue true) s.hold
  match high.1 with
  | none => high.2
  | some (.err e) => high.2.returns (.resetControl (.setValue true) e)
  | some .ok => setupBringUp high.2

/-- The reset pulse and bring-up of `setup` (R277), stopping at the first failure (R278). -/
def setupPulse (s : State) : State :=
  let low := resetControl (.setValue false) s
  match low.1 with
  | none => low.2
  | some (.err e) => low.2.returns (.resetControl (.setValue false) e)
  | some .ok => setupRelease low.2

/-- `setup` sets the direction of the reset line where the host does so here; a failure is fatal to `setup` (R273, R278;
log 17). -/
def setupDirection (s : State) : State :=
  let dir := setDirection s.cfg.dirInSetup s
  match dir.1 with
  | none => dir.2
  | some (.err e) => dir.2.returns (.resetControl .setDirectionOut e)
  | some .ok => setupPulse dir.2

/-- `setup()` (R277): in Configured; elsewhere FAULT (R284(b)). -/
def setupCall (s : State) : State := if s.session = .configured then setupDirection s else s.markFault

/-- The end of `draw`: back to Active with FLUSH's result (R279, R280). -/
def drawEnd (sent : Option Result × State) : State :=
  match sent.1 with
  | none => sent.2
  | some (.ok _) => { sent.2 with session := .active }.returns .ok
  | some r => { sent.2 with session := .active }.returns (.block r)

/-- `draw()` (R279): in Active, Flushing while FLUSH runs; elsewhere FAULT (R284(a)). -/
def drawCall (s : State) : State :=
  if s.session = .active then drawEnd (issue flushBody { s with session := .flushing }) else s.markFault

/-- The session ends Closed and the block is destroyed (R281, R39). -/
def State.shut (s : State) : State := { s with live := false, session := .closed }

/-- `close` after the power-off command was sent: release the reset control, then end Closed with its outcome (R281). -/
def closeRelease (s : State) : State :=
  let rel := resetControl .release s
  match rel.1 with
  | none => rel.2
  | some (.err e) => rel.2.shut.returns (.resetControl .release e)
  | some .ok => rel.2.shut.returns .ok

/-- The power-off command of `close` (R281): where it does not end OK the session ends Closed with that result and the reset
control is not released (log 15). -/
def closePowerOff (s : State) : State :=
  let sent := issue (sendCmdBody [s.cfg.powerOffOpc]) s
  match sent.1 with
  | none => sent.2
  | some (.ok _) => closeRelease sent.2
  | some r => sent.2.shut.returns (.block r)

/-- `close()` (R281): in Configured or Active; after `close` FAULT (R282, R284(d)). FAULT in Uninitialized, and in Flushing, too:
DESIGN CHOICE, the spec gives `close` no meaning there and names no violation (log 32). -/
def closeCall (s : State) : State :=
  if s.session = .configured ∨ s.session = .active then closePowerOff s else s.markFault

/-- One session call. -/
def sessionCall (c : SessionCall) (s : State) : Host.Outcome State Fault Refusal :=
  match c with
  | .openBlock cfg => openCall cfg s
  | .setup => .next (setupCall s)
  | .draw => .next (drawCall s)
  | .close => .next (closeCall s)

end Sys2Proof.Machine
end

