-- ==== Sys2Proof/Machine/Step.lean ====
section
/-! DEFINITION. One step: the next action of the host, taken whole (10_state.md R37, 20_memory.md R70). -/

namespace Sys2Proof.Machine

/-- One step of the machine. -/
def step (s : State) : Host.Outcome State Fault Refusal :=
  match fetch s with
  | .stuck f => .fault f
  | .settled t => .next t
  | .call c t => sessionCall c t
  | .instr i t => exec i t

/-- The state with an instruction where the step fetches its next one: the front of the pending actions (log 10). -/
def State.withFetchWord (s : State) (nbits w : Nat) : State := s.withDescriptor nbits w

end Sys2Proof.Machine
end

