-- ==== Sys2Proof/Machine/ByteForms.lean ====
section
/-! DEFINITION. The byte forms of RECT (41_rasterizer.md R166) and GLYPH (R170): implementations the spec gives beside the
pixel sets, which must leave the same framebuffer. No meaning calls them; statements compare them with the meanings. -/

namespace Sys2Proof.Machine

/-- The page mask with bits `lo .. hi` set: `(0xFF << lo) & 0xFF & (0xFF >> (7 - hi))` (R166). -/
def pageMask (lo hi : Nat) : Byte := ((0xFF : Byte) <<< lo) &&& ((0xFF : Byte) >>> (7 - hi))

/-- The lowest row of a page inside the box (R166). -/
def pageLo (y0 page : Nat) : Nat := if page = y0 / 8 then y0 % 8 else 0

/-- The highest row of a page inside the box (R166). -/
def pageHi (y1 page : Nat) : Nat := if page = y1 / 8 then y1 % 8 else 7

/-- One page row of RECT's page path: the mask on every column `x0 .. xb` (R166). -/
def rectPage (w x0 y0 xb y1 : Nat) (c : Colour) (fb : Mem) (page : Nat) : Mem :=
  (natsFromTo x0 xb).foldl (fun m x => applyMask (page * w + x) (pageMask (pageLo y0 page) (pageHi y1 page)) c m) fb

/-- `RectPaths` (R166), with columns clipped at `W - 1` and pages at `P - 1`. -/
def rectPaths (cfg : Config) (c : Colour) (x0 y0 x1 y1 : Nat) (fb : Mem) : Mem :=
  if x0 > x1 ∨ y0 > y1 then fb
  else if x0 = x1 ∨ y0 = y1 then paint cfg.w cfg.h c (linePoints x0 y0 x1 y1) fb
  else if y0 / 8 ≠ y1 / 8 then
    ((natsFromTo (y0 / 8) (y1 / 8)).filter fun page => page < pageCount cfg).foldl
      (rectPage cfg.w x0 y0 (min x1 (cfg.w - 1)) y1 c) fb
  else (natsFromTo y0 y1).foldl (fun m y => paint cfg.w cfg.h c (linePoints x0 y x1 y) m) fb

/-- One column of `GlyphBytes` (R170): the anchor's page row gets the byte shifted left by `y % 8`, the next page row, where
there is one, the byte shifted right by `8 - y % 8`. -/
def glyphColumn (cfg : Config) (c : Colour) (x y : Nat) (g : Byte) (fb : Mem) : Mem :=
  let upper := applyMask (y / 8 * cfg.w + x) (g <<< (y % 8)) c fb
  if y % 8 ≠ 0 ∧ y / 8 + 1 < pageCount cfg then applyMask ((y / 8 + 1) * cfg.w + x) (g >>> (8 - y % 8)) c upper else upper

/-- `GlyphBytes` (R170), after the checks of R168. -/
def glyphBytes (cfg : Config) (c : Colour) (x y code : Nat) (fb : Mem) : Mem :=
  (List.range 5).foldl (fun m i => if x + i ≥ cfg.w then m else glyphColumn cfg c (x + i) y (glyphByte cfg code i) m) fb

end Sys2Proof.Machine
end

