-- ==== Sys2Proof/Machine/Flags.lean ====
section
/-! DEFINITION. The block has no condition flags and no status register (10_state.md R38); what an operation reports is its
result, whose code numbers are here (60_exceptions.md R250). -/

namespace Sys2Proof.Machine

/-- The result codes of R250. -/
def resultCode : Result → Nat
  | .ok _ => 0
  | .invalidInput => 1
  | .outOfRange => 2
  | .transportError _ _ => 3
  | .illegal => 4
  | .noInterface => 5

end Sys2Proof.Machine
end

