-- ==== Sys2Proof/Safety.lean ====
section
/-! DEFINITION. What counts as a sound state and a claimable run: the invariant every step keeps, the marks under which
nothing may be claimed of a run (10_state.md R41), and the words the statements use for what an operation does. -/

namespace Sys2Proof.Machine

/-- A frame of TXLOG carries the prefix of its kind and length (30_encoding.md R103). -/
def pfxMatches (cfg : Config) (t : TxEntry) : Bool :=
  decide (t.pfx = selectPfx cfg .cmd t.payload.length) || decide (t.pfx = selectPfx cfg .data t.payload.length)

/-- The session's states in which the block exists (R39, R275). -/
def SessionState.hasBlock : SessionState → Bool
  | .uninitialized => false
  | .configured => true
  | .active => true
  | .flushing => true
  | .closed => false

/-- The invariant of the machine. -/
structure State.Inv (s : State) : Prop where
  /-- The configuration is legal (R31). -/
  legal : configLegal s.cfg = true
  /-- The framebuffer is in canonical form and has `W * H / 8` bytes (R32, R33). -/
  memory : Mem.wf (fbSize s.cfg) s.fb = true
  /-- The block exists exactly from `open` to `close` (R39). -/
  life : s.live = s.session.hasBlock
  /-- The session is Flushing between steps only where FLUSH's write never returned (R275, R312). -/
  flushing : s.session = .flushing → s.stalled = true
  /-- Every frame that reached the bus has a prefix of its length (R103). -/
  frames : ∀ t ∈ s.txLog, pfxMatches s.cfg t = true
  /-- Every frame that reached the bus was sent to `BUS_ADDR` (R14, R270). -/
  addressed : ∀ t ∈ s.txLog, t.addr = s.cfg.busAddr
  /-- Unless OVERSIZE is set, no frame was longer than `MAX_XFER` (R218). -/
  lengths : s.oversize = false → ∀ t ∈ s.txLog, t.payload.length ≤ s.cfg.maxXfer

/-- A state whose run may be the subject of a claim: neither mark is set (R41, R218). -/
abbrev State.claimable (s : State) : Prop := s.fault = false ∧ s.oversize = false

/-- `new` is `old` with exactly the pixels of `pts` that are on the grid turned to `c`: every pixel of every byte is accounted
for (R62, R160), and nothing is listed outside the framebuffer. -/
def PaintsExactly (cfg : Config) (c : Colour) (pts : List (Int × Int)) (old new : Mem) : Prop :=
  Mem.wf (fbSize cfg) new = true ∧
  ∀ x y : Nat, x < cfg.w → y < cfg.h →
    pixelAt cfg.w new x y = if ((x : Int), (y : Int)) ∈ pts then c.toBit else pixelAt cfg.w old x y

/-- The state after `k` collaborator calls used up their draws. -/
def State.afterDraws (k : Nat) (s : State) : State := State.advanceDraw^[k] s

/-- What the collaborator call number `k` from here on does (R271). -/
def State.drawAt (k : Nat) (s : State) : Draw := (s.afterDraws k).nextDraw

/-- The collaborator calls before number `k` all return `ok`. -/
def State.okBefore (k : Nat) (s : State) : Prop := ∀ j < k, s.drawAt j = .returns .ok

/-- The TXLOG entry of one frame (R14, R42, R103). -/
def frameEntry (cfg : Config) (kind : FrameKind) (o : IoOutcome) (payload : List Byte) : TxEntry :=
  ⟨cfg.busAddr, selectPfx cfg kind payload.length, payload, o⟩

/-- Some frame of the list is longer than `MAX_XFER` (R218). -/
def anyOversize (cfg : Config) (frames : List (List Byte)) : Bool := frames.any fun p => decide (p.length > cfg.maxXfer)

/-- The outcome of an operation that sends `frames` in order (R214 to R217, R220, R312): all writes `ok` and result OK; or
write `k` the first to fail, reported with its index and error, nothing sent after it; or write `k` the first that never
returns: no result, no TXLOG entry for it, the machine stalled (the model's choice, log 8). Nothing else of the state changes. -/
def SendsFrames (out : Host.Outcome State Fault Refusal) (s : State) (kind : FrameKind) (frames : List (List Byte)) : Prop :=
  (s.okBefore frames.length →
    out = .next { s.afterDraws frames.length with
      txLog := s.txLog ++ frames.map (frameEntry s.cfg kind .ok)
      oversize := s.oversize || anyOversize s.cfg frames
      replies := s.replies ++ [.op (.ok .unit)] }) ∧
  (∀ k e, k < frames.length → s.okBefore k → s.drawAt k = .returns (.err e) →
    out = .next { s.afterDraws (k + 1) with
      txLog := s.txLog ++ (frames.take k).map (frameEntry s.cfg kind .ok) ++ [frameEntry s.cfg kind (.err e) (frames.getD k [])]
      oversize := s.oversize || anyOversize s.cfg (frames.take (k + 1))
      replies := s.replies ++ [.op (.transportError k e)] }) ∧
  (∀ k, k < frames.length → s.okBefore k → s.drawAt k = .never →
    out = .next { s.afterDraws (k + 1) with
      txLog := s.txLog ++ (frames.take k).map (frameEntry s.cfg kind .ok)
      oversize := s.oversize || anyOversize s.cfg (frames.take (k + 1))
      stalled := true })

/-- A transfer of the given descriptor port (R96). -/
def isTransfer (p : DescPort) (a : HostInput) : Bool :=
  match p, a with
  | .wordWide, .word _ => true
  | .byteWide, .byte _ => true
  | _, _ => false

/-- What the reset control sees of a `set_direction(out)` that goes well, where the host calls it: `due.toNat` calls (R273;
log 17). -/
def directionCalls (due : Bool) : List ResetEvent := if due then [.called .setDirectionOut .ok] else []

/-- The operations that write the framebuffer (R32). -/
def drawsPixels : Instr → Bool
  | .clear _ => true
  | .point _ _ _ => true
  | .query _ _ => false
  | .snapshot => false
  | .line _ _ _ _ _ => true
  | .circle _ _ _ _ => true
  | .rect _ _ _ _ _ => true
  | .glyph _ _ _ _ => true
  | .sendCmd _ => false
  | .sendData _ => false
  | .sendChunked _ => false
  | .flush => false

/-- The framer operations (R4, R219). -/
def isFramer : Instr → Bool
  | .clear _ => false
  | .point _ _ _ => false
  | .query _ _ => false
  | .snapshot => false
  | .line _ _ _ _ _ => false
  | .circle _ _ _ _ => false
  | .rect _ _ _ _ _ => false
  | .glyph _ _ _ _ => false
  | .sendCmd _ => true
  | .sendData _ => true
  | .sendChunked _ => true
  | .flush => true

/-- The header word of an opcode number with a colour (R91). -/
def colourHeader (c : Colour) (opc : Nat) : Word16 :=
  match c with
  | .set => BitVec.ofNat 16 (0x0100 + opc)
  | .clr => BitVec.ofNat 16 opc

end Sys2Proof.Machine
end

