-- ==== Sys2Proof/Certificates/Slice0/Obligations.lean ====
section
/-! DEFINITION. The statements for the provers, from the spec's numbered rules. Every statement about the framebuffer's
content takes the machine's invariant as a premise; `StepKeepsInvariant` and `ResetMeetsInvariant` state that invariant. -/

open Sys2Proof Sys2Proof.Machine

/-! ## Encoding -/

/-- R90 to R95: the decoder reads back every well-formed instruction, whatever words follow its descriptor. -/
def Obligations.DecodeInvertsEncode : Prop :=
  ∀ (i : Instr) (rest : List Word16), i.wellFormed = true → decode (encode i ++ rest) = .instr i (encode i).length

/-- R91 to R97: a descriptor the decoder accepts is the encoding of the instruction it gives, all of whose words have
arrived. -/
def Obligations.DecodedWordsAreTheEncoding : Prop :=
  ∀ (ws : List Word16) (i : Instr) (n : Nat), decode ws = .instr i n →
    i.wellFormed = true ∧ n ≤ ws.length ∧ ws.take n = encode i

/-- The descriptors V-ENC-1 to V-ENC-11 of 95_test_vectors.md, written out there as words, decode as they say there. -/
def Obligations.WrittenOutDescriptorsDecode : Prop :=
  decode [0x0101] = .instr (.clear .set) 1 ∧
  decode [0x0001] = .instr (.clear .clr) 1 ∧
  decode [0x0102, 0x0003, 0x0005] = .instr (.point .set 3 5) 3 ∧
  decode [0x0003, 0x0003, 0x0005] = .instr (.query 3 5) 3 ∧
  decode [0x0110, 0x0000, 0x0000, 0x0004, 0x0000] = .instr (.line .set 0 0 4 0) 5 ∧
  decode [0x0111, 0x000B, 0x000B, 0x0004] = .instr (.circle .set 11 11 4) 4 ∧
  decode [0x0113, 0x0000, 0x0003, 0x0041] = .instr (.glyph .set 0 3 65) 4 ∧
  decode [0x0020, 0x0001, 0x00AE] = .instr (.sendCmd [0xAE]) 3 ∧
  decode [0x0021, 0x0003, 0x3412, 0x0056] = .instr (.sendData [0x12, 0x34, 0x56]) 4 ∧
  decode [0x0022, 0x0000] = .instr (.sendChunked []) 2 ∧
  decode [0x0023] = .instr .flush 1

/-- R97: the four illegal cases in their order, the length of the descriptor in each, and nothing else is illegal. -/
def Obligations.IllegalDescriptorCases : Prop :=
  ∀ (w0 : Word16) (rest : List Word16),
    (Opcode.ofByte (opcBits w0) = none → decode (w0 :: rest) = .illegal .reservedOpcode 1) ∧
    ∀ op n, Opcode.ofByte (opcBits w0) = some op → op.totalWords rest = some n → n ≤ rest.length + 1 →
      (rsvBits w0 ≠ 0 → decode (w0 :: rest) = .illegal .reservedBits n) ∧
      (rsvBits w0 = 0 → colourBit w0 = 1 → op.usesColour = false → decode (w0 :: rest) = .illegal .colourBit n) ∧
      (rsvBits w0 = 0 → (colourBit w0 = 0 ∨ op.usesColour = true) → padByteBad op rest = true →
        decode (w0 :: rest) = .illegal .padByte n) ∧
      (rsvBits w0 = 0 → (colourBit w0 = 0 ∨ op.usesColour = true) → padByteBad op rest = false →
        ∃ i, decode (w0 :: rest) = .instr i n)

/-- R97, R254: a step whose front is an illegal descriptor returns ILLEGAL, takes the descriptor's words, and changes nothing
else. -/
def Obligations.IllegalDescriptorHasNoEffect : Prop :=
  ∀ (s : State) (why : IllegalReason) (n : Nat), s.stalled = false → s.live = true →
    decode (portWords s.cfg.descPort s.pending) = .illegal why n →
    step s = .next { s with
      pending := s.pending.drop (transfersOf s.cfg.descPort n)
      replies := s.replies ++ [.op .illegal] }

/-- R96: both ports deliver the words sent, the byte-wide port sending the low byte of each first. -/
def Obligations.PortDeliversTheWordsSent : Prop :=
  (∀ (p : DescPort) (ws : List Word16), portWords p (sendWords p ws) = ws) ∧
  (∀ w : Word16, sendWords .wordWide [w] = [.word w]) ∧
  (∀ w : Word16, sendWords .byteWide [w] = [.byte (w.extractLsb' 0 8), .byte (w.extractLsb' 8 8)])

/-! ## Steps -/

/-- When the words at the port decode to an instruction, the step is `exec` of it after its transfers were taken (R37, R95). -/
def Obligations.StepRunsTheDecodedInstruction : Prop :=
  ∀ (s : State) (i : Instr) (n : Nat), s.stalled = false → decode (portWords s.cfg.descPort s.pending) = .instr i n →
    step s = exec i { s with pending := s.pending.drop (transfersOf s.cfg.descPort n) }

/-- R95, R96: an instruction whose descriptor the host has sent, whatever it sent after, is what the next step runs, on
either port; exactly its own transfers are taken. -/
def Obligations.StepRunsTheInstructionSent : Prop :=
  ∀ (s : State) (i : Instr) (rest : List HostInput), s.stalled = false → i.wellFormed = true →
    s.pending = sendWords s.cfg.descPort (encode i) ++ rest → step s = exec i { s with pending := rest }

/-- R37, R301, R312: the host's next action is the one at the front; with nothing pending the block waits and changes nothing;
once a collaborator's call has not returned, the block makes no further step (how that shows is the model's choice, log 8).
While the words of a descriptor have not all arrived the block waits and changes nothing (the model's choice, log 26); where
another action cuts them off, or a transfer of the wrong width arrives, these transfers are dropped and FAULT is set (the
model's choice, log 11). -/
def Obligations.StepTakesTheHostsAction : Prop :=
  (∀ (s : State) (c : SessionCall) (rest : List HostInput), s.stalled = false → s.pending = .call c :: rest →
    step s = sessionCall c { s with pending := rest }) ∧
  (∀ s : State, s.stalled = false → s.pending = [] → step s = .next s) ∧
  (∀ s : State, s.stalled = true → step s = .fault .transportNeverReturns) ∧
  (∀ s : State, s.stalled = false → (∀ a ∈ s.pending, isTransfer s.cfg.descPort a = true) →
    decode (portWords s.cfg.descPort s.pending) = .incomplete → step s = .next s) ∧
  (∀ (s : State) (cut : List HostInput) (a : HostInput) (rest : List HostInput), s.stalled = false →
    s.pending = cut ++ a :: rest → cut ≠ [] → (∀ b ∈ cut, isTransfer s.cfg.descPort b = true) →
    isTransfer s.cfg.descPort a = false → decode (portWords s.cfg.descPort cut) = .incomplete →
    step s = .next { s with pending := a :: rest, fault := true }) ∧
  (∀ (s : State) (rest : List HostInput), s.stalled = false →
    ((s.cfg.descPort = .byteWide ∧ ∃ w, s.pending = .word w :: rest) ∨
      (s.cfg.descPort = .wordWide ∧ ∃ b, s.pending = .byte b :: rest)) →
    step s = .next { s with pending := rest, fault := true })

/-- R250: the result codes have their numbers, and every operation of a living block answers a
next state and returns exactly one result. R312, and the model's choice (log 8): a framer operation one of whose writes never
returns returns no result, and the machine is stalled in that next state. -/
def Obligations.OperationReturnsOneResult : Prop :=
  ((∀ v, resultCode (.ok v) = 0) ∧ resultCode .invalidInput = 1 ∧ resultCode .outOfRange = 2 ∧
    (∀ k e, resultCode (.transportError k e) = 3) ∧ resultCode .illegal = 4 ∧ resultCode .noInterface = 5) ∧
  ∀ (i : Instr) (s : State), s.live = true → ∃ t, exec i s = .next t ∧
    ((∃ r, t.replies = s.replies ++ [.op r]) ∨ (t.replies = s.replies ∧ t.stalled = true ∧ isFramer i = true))

/-! ## Reset and invariants -/

/-- R34: after reset every byte of the framebuffer, `W * H / 8` of them, is `0x00`. -/
def Obligations.ResetFramebufferIsClear : Prop :=
  State.reset.snapshot = List.replicate (State.reset.cfg.w * State.reset.cfg.h / 8) 0x00 ∧
  ∀ x y : Nat, x < State.reset.cfg.w → y < State.reset.cfg.h → pixelAt State.reset.cfg.w State.reset.fb x y = 0

/-- R44: the values of LIVE, TXLOG, FAULT and OVERSIZE after construction, and the session's state after `open` (R276). The
reference configuration is the model's choice of construction arguments (logs 1 to 5, 17), and so are the empty observations and
inputs (log 6, 8, 9, 10). -/
def Obligations.ResetState : Prop :=
  State.reset.cfg = Config.reference ∧ State.reset.cfg.w = 128 ∧ State.reset.cfg.h = 64 ∧ State.reset.cfg.chunk = 32 ∧
  State.reset.cfg.maxXfer = 32 ∧ State.reset.cfg.iface = .bus ∧
  State.reset.live = true ∧ State.reset.txLog = [] ∧ State.reset.fault = false ∧ State.reset.oversize = false ∧
  State.reset.session = .configured ∧ State.reset.pending = [] ∧ State.reset.stalled = false

/-- R300, R276: `open` with a legal configuration and both collaborators acquired constructs the block. That its calls are the
two acquisitions and, where the host sets the direction in `open`, one `set_direction(out)`, is the model's choice (log 17). -/
def Obligations.OpenConstructsTheBlock : Prop :=
  ∀ (cfg : Config) (s : State), s.session = .uninitialized → configLegal cfg = true →
    s.okBefore (2 + cfg.dirInOpen.toNat) →
    ∃ t, sessionCall (.openBlock cfg) s = .next t ∧ t.cfg = cfg ∧ t.txLog = [] ∧ t.fault = false ∧ t.oversize = false ∧
      t.live = true ∧ t.session = .configured ∧ t.snapshot = List.replicate (fbSize cfg) 0x00 ∧
      t.replies = s.replies ++ [.session .ok] ∧ t.resetLog = s.resetLog ++ directionCalls cfg.dirInOpen ∧
      t.pending = s.pending ∧ t.stalled = s.stalled ∧
      t.script = (s.afterDraws (2 + cfg.dirInOpen.toNat)).script ∧ t.draws = (s.afterDraws (2 + cfg.dirInOpen.toNat)).draws

/-- R274, R31: where a collaborator cannot be acquired, or the configuration is illegal, no block is constructed; nor where
`set_direction(out)` fails in `open`. The model's choices: which collaborator is asked first (log 16), where the direction is
set (log 17), that the session stays Uninitialized (log 24), that the reset control is not released (log 31). -/
def Obligations.OpenFailureConstructsNothing : Prop :=
  ∀ (cfg : Config) (s : State), s.session = .uninitialized →
    (configLegal cfg = false → sessionCall (.openBlock cfg) s = .refused .illegalConfig) ∧
    (configLegal cfg = true →
      (∀ e, s.drawAt 0 = .returns (.err e) →
        sessionCall (.openBlock cfg) s =
          .next { s.afterDraws 1 with replies := s.replies ++ [.session (.acquire .resetControl e)] }) ∧
      (∀ e, cfg.dirInOpen = true → s.okBefore 1 → s.drawAt 1 = .returns (.err e) →
        sessionCall (.openBlock cfg) s = .next { s.afterDraws 2 with
          resetLog := s.resetLog ++ [.called .setDirectionOut (.err e)]
          replies := s.replies ++ [.session (.resetControl .setDirectionOut e)] }) ∧
      (∀ e, s.okBefore (1 + cfg.dirInOpen.toNat) → s.drawAt (1 + cfg.dirInOpen.toNat) = .returns (.err e) →
        sessionCall (.openBlock cfg) s = .next { s.afterDraws (2 + cfg.dirInOpen.toNat) with
          resetLog := s.resetLog ++ directionCalls cfg.dirInOpen
          replies := s.replies ++ [.session (.acquire .busTransport e)] }))

/-- The invariant holds after reset. -/
def Obligations.ResetMeetsInvariant : Prop := State.reset.Inv

/-- R14, R31, R33, R39, R103, R218: every step keeps the invariant, from every state that meets it. That the session is Flushing
between steps only where the machine is stalled is the model's choice (logs 8, 28). -/
def Obligations.StepKeepsInvariant : Prop := ∀ s t : State, s.Inv → step s = .next t → t.Inv

/-- R33: at all times the framebuffer has `W * H / 8` bytes, and no step changes its length. -/
def Obligations.FramebufferLengthIsFixed : Prop :=
  (∀ s : State, s.snapshot.length = s.cfg.w * s.cfg.h / 8) ∧
  ∀ s t : State, s.Inv → s.session ≠ .uninitialized → step s = .next t →
    t.snapshot.length = s.snapshot.length ∧ Mem.wf (s.cfg.w * s.cfg.h / 8) t.fb = true

/-- R30: no step changes the configuration once the block is constructed. -/
def Obligations.ConfigurationIsImmutable : Prop :=
  ∀ s t : State, s.session ≠ .uninitialized → step s = .next t → t.cfg = s.cfg

/-- R41, R39: once set, FAULT and OVERSIZE are cleared by no step, and a block destroyed never lives again, but for
construction. -/
def Obligations.MarksAndDeathAreSticky : Prop :=
  ∀ s t : State, s.session ≠ .uninitialized → step s = .next t →
    (s.fault = true → t.fault = true) ∧ (s.oversize = true → t.oversize = true) ∧ (s.live = false → t.live = false)

/-- R32, R302: the framebuffer's bytes change only in a step that runs a drawing operation: no query, snapshot, framer
operation, reset pulse or other session call, but construction, changes them. -/
def Obligations.OnlyDrawingWritesTheFramebuffer : Prop :=
  ∀ s t : State, s.session ≠ .uninitialized → step s = .next t → t.fb ≠ s.fb →
    ∃ i u, fetch s = .instr i u ∧ drawsPixels i = true ∧ s.live = true

/-- R42, R71: TXLOG only grows at its end, and only in a step that runs a framer operation or a session call. -/
def Obligations.TxLogOnlyGrows : Prop :=
  ∀ s t : State, s.session ≠ .uninitialized → step s = .next t →
    ∃ l, t.txLog = s.txLog ++ l ∧
      (l ≠ [] → s.live = true ∧ ((∃ i u, fetch s = .instr i u ∧ isFramer i = true) ∨ ∃ c u, fetch s = .call c u))

/-! ## Framebuffer operations -/

/-- R62: the mapping between in-range pixels and bits of framebuffer bytes is a bijection. -/
def Obligations.PixelMappingIsABijection : Prop :=
  ∀ cfg : Config, configLegal cfg = true →
    (∀ x y : Nat, x < cfg.w → y < cfg.h →
      pixelIndex cfg.w x y < fbSize cfg ∧ pixelIndex cfg.w x y % cfg.w = x ∧ pixelIndex cfg.w x y / cfg.w * 8 + y % 8 = y) ∧
    (∀ i b : Nat, i < fbSize cfg → b < 8 →
      i % cfg.w < cfg.w ∧ i / cfg.w * 8 + b < cfg.h ∧ pixelIndex cfg.w (i % cfg.w) (i / cfg.w * 8 + b) = i ∧
      (i / cfg.w * 8 + b) % 8 = b)

/-- R132: CLEAR makes every byte `0xFF` or `0x00`, returns OK, and changes nothing else. -/
def Obligations.ClearFillsEveryByte : Prop :=
  (∀ c, encode (.clear c) = [colourHeader c 0x01]) ∧
  ∀ (c : Colour) (s : State), s.live = true →
    ∃ fb, exec (.clear c) s = .next { s with fb := fb, replies := s.replies ++ [.op (.ok .unit)] } ∧
      Mem.wf (fbSize s.cfg) fb = true ∧
      ∀ i < fbSize s.cfg, Mem.read fb i = (match c with | .set => 0xFF | .clr => 0x00)

/-- R133: POINT sets or clears its pixel, or nothing where it is off the grid, returns OK, and changes nothing else. -/
def Obligations.PointWritesOnePixel : Prop :=
  (∀ c x y, encode (.point c x y) = [colourHeader c 0x02, x, y]) ∧
  ∀ (c : Colour) (x y : Word16) (s : State), s.Inv → s.live = true →
    ∃ fb, exec (.point c x y) s = .next { s with fb := fb, replies := s.replies ++ [.op (.ok .unit)] } ∧
      PaintsExactly s.cfg c [((x.toNat : Int), (y.toNat : Int))] s.fb fb ∧
      (x.toNat ≥ s.cfg.w ∨ y.toNat ≥ s.cfg.h → fb = s.fb) ∧
      ∀ i, i ≠ s.cfg.w * (y.toNat / 8) + x.toNat → Mem.read fb i = Mem.read s.fb i

/-- R134: QUERY returns the pixel's bit, or OUT_OF_RANGE off the grid, and changes no state. -/
def Obligations.QueryReadsOnePixel : Prop :=
  (∀ x y, encode (.query x y) = [0x0003, x, y]) ∧
  ∀ (x y : Word16) (s : State), s.live = true →
    (x.toNat < s.cfg.w → y.toNat < s.cfg.h →
      exec (.query x y) s = .next { s with
        replies := s.replies ++
          [.op (.ok (.pixel ((Mem.read s.fb (s.cfg.w * (y.toNat / 8) + x.toNat) >>> (y.toNat % 8)).extractLsb' 0 1)))] }) ∧
    (x.toNat ≥ s.cfg.w ∨ y.toNat ≥ s.cfg.h →
      exec (.query x y) s = .next { s with replies := s.replies ++ [.op .outOfRange] })

/-- R135, R65: SNAPSHOT returns exactly the `NB` bytes of the framebuffer in index order and changes no state. -/
def Obligations.SnapshotReadsEveryByte : Prop :=
  encode .snapshot = [0x0004] ∧
  ∀ s : State, s.live = true →
    ∃ bs, exec .snapshot s = .next { s with replies := s.replies ++ [.op (.ok (.bytes bs))] } ∧
      bs.length = fbSize s.cfg ∧ ∀ i < fbSize s.cfg, bs[i]? = some (Mem.read s.fb i)

/-- R136 (a) to (e): off-grid plots are no-ops; setting then clearing a pixel leaves it clear and every other pixel as it was;
plotting is idempotent; plots to different pixels commute and of plots to one pixel the last wins;
after CLEAR every in-range QUERY gives the colour's bit. -/
def Obligations.FramebufferLaws : Prop :=
  (∀ (cfg : Config) (fb : Mem), configLegal cfg = true → Mem.wf (fbSize cfg) fb = true →
    (∀ c x y, ¬ inGrid cfg.w cfg.h x y → plot cfg.w cfg.h c fb (x, y) = fb) ∧
    (∀ c p, plot cfg.w cfg.h c (plot cfg.w cfg.h c fb p) p = plot cfg.w cfg.h c fb p) ∧
    (∀ c d p q, p ≠ q →
      plot cfg.w cfg.h d (plot cfg.w cfg.h c fb p) q = plot cfg.w cfg.h c (plot cfg.w cfg.h d fb q) p) ∧
    (∀ c d p, plot cfg.w cfg.h d (plot cfg.w cfg.h c fb p) p = plot cfg.w cfg.h d fb p)) ∧
  (∀ (x y : Word16) (s t u : State), s.Inv → s.live = true → x.toNat < s.cfg.w → y.toNat < s.cfg.h →
    exec (.point .set x y) s = .next t → exec (.point .clr x y) t = .next u →
    PaintsExactly s.cfg .clr [((x.toNat : Int), (y.toNat : Int))] s.fb u.fb) ∧
  (∀ (c : Colour) (x y : Word16) (s t : State), configLegal s.cfg = true → s.live = true → exec (.clear c) s = .next t →
    x.toNat < s.cfg.w → y.toNat < s.cfg.h →
    exec (.query x y) t =
      .next { t with replies := t.replies ++ [.op (.ok (.pixel (match c with | .set => 1 | .clr => 0)))] })

/-- R131: a masked update ORs or AND-NOTs the mask, equals the plots of the mask's bits in any order, and leaves the other bits of the byte and every
other byte unchanged. -/
def Obligations.ApplyMaskIsPlotsOfItsBits : Prop :=
  ∀ (cfg : Config) (fb : Mem) (i : Nat) (m : Byte) (c : Colour), configLegal cfg = true → Mem.wf (fbSize cfg) fb = true →
    i < fbSize cfg →
    (∀ bits : List Nat, bits.Perm ((List.range 8).filter fun b => m.getLsbD b) →
      applyMask i m c fb =
        bits.foldl (fun f b => plot cfg.w cfg.h c f (((i % cfg.w : Nat) : Int), ((i / cfg.w * 8 + b : Nat) : Int))) fb) ∧
    Mem.read (applyMask i m c fb) i =
      (match c with | .set => Mem.read fb i ||| m | .clr => Mem.read fb i &&& (~~~m &&& 0xFF)) ∧
    (∀ b < 8, m.getLsbD b = false → (Mem.read (applyMask i m c fb) i).getLsbD b = (Mem.read fb i).getLsbD b) ∧
    (∀ j, j ≠ i → Mem.read (applyMask i m c fb) j = Mem.read fb j) ∧
    applyMask i 0x00 c fb = fb

/-! ## Rasterizer operations -/

/-- R161, R160: LINE paints the points of its loop in its colour, returns OK, and changes nothing else. -/
def Obligations.LinePaintsItsPoints : Prop :=
  (∀ c x0 y0 x1 y1, encode (.line c x0 y0 x1 y1) = [colourHeader c 0x10, x0, y0, x1, y1]) ∧
  ∀ (c : Colour) (x0 y0 x1 y1 : Word16) (s : State), s.Inv → s.live = true →
    ∃ fb, exec (.line c x0 y0 x1 y1) s = .next { s with fb := fb, replies := s.replies ++ [.op (.ok .unit)] } ∧
      PaintsExactly s.cfg c (linePoints x0.toNat y0.toNat x1.toNat y1.toNat) s.fb fb

/-- R161, R162(a): LINE's loop, with both comparisons and all three updates of a round taken from the error before either,
ends at the endpoint after `max(dx, dy)` rounds and not before, and plots `max(dx, dy) + 1` distinct points. -/
def Obligations.LineLoopEndsAtTheEndpoint : Prop :=
  ∀ x0 y0 x1 y1 : Int,
    let dx : Int := ((x1 - x0).natAbs : Int)
    let dy : Int := ((y1 - y0).natAbs : Int)
    let sx : Int := if x0 < x1 then 1 else -1
    let sy : Int := if y0 < y1 then 1 else -1
    let round : LineVars → LineVars := fun v =>
      { x := if 2 * v.e > -dy then v.x + sx else v.x
        y := if 2 * v.e < dx then v.y + sy else v.y
        e := v.e + (if 2 * v.e > -dy then -dy else 0) + (if 2 * v.e < dx then dx else 0) }
    let n := max (x1 - x0).natAbs (y1 - y0).natAbs
    let v : Nat → LineVars := fun k => round^[k] { x := x0, y := y0, e := dx - dy }
    linePoints x0 y0 x1 y1 = (List.range (n + 1)).map (fun k => ((v k).x, (v k).y)) ∧
    ((v n).x = x1 ∧ (v n).y = y1) ∧ (∀ k < n, ¬ ((v k).x = x1 ∧ (v k).y = y1)) ∧
    (linePoints x0 y0 x1 y1).Nodup

/-- R162(b): successive points of LINE differ by at most 1 in each coordinate, and by exactly 1 in at least one. -/
def Obligations.LineIsEightConnected : Prop :=
  ∀ (x0 y0 x1 y1 : Int) (k : Nat) (p q : Int × Int),
    (linePoints x0 y0 x1 y1)[k]? = some p → (linePoints x0 y0 x1 y1)[k + 1]? = some q →
    (q.1 - p.1).natAbs ≤ 1 ∧ (q.2 - p.2).natAbs ≤ 1 ∧ ((q.1 - p.1).natAbs = 1 ∨ (q.2 - p.2).natAbs = 1)

/-- R162(c), (d): a horizontal or vertical LINE is exactly the pixels between its endpoints; LINE is not symmetric in its
endpoints. -/
def Obligations.AxisLinesAreSegments : Prop :=
  (∀ (x0 x1 y : Int) (p : Int × Int), p ∈ linePoints x0 y x1 y ↔ p.2 = y ∧ min x0 x1 ≤ p.1 ∧ p.1 ≤ max x0 x1) ∧
  (∀ (x y0 y1 : Int) (p : Int × Int), p ∈ linePoints x y0 x y1 ↔ p.1 = x ∧ min y0 y1 ≤ p.2 ∧ p.2 ≤ max y0 y1) ∧
  linePoints 0 0 1 2 = [(0, 0), (0, 1), (1, 2)] ∧ linePoints 1 2 0 0 = [(1, 2), (1, 1), (0, 0)]

/-- 41_rasterizer.md section 3: CIRCLE paints the points of its loop in its colour, returns OK, and changes nothing else. The
increments of a round are the spec's own, from general knowledge (92_eei_decisions.md D9, I-GK1; log 21). -/
def Obligations.CirclePaintsItsPoints : Prop :=
  (∀ c x0 y0 r, encode (.circle c x0 y0 r) = [colourHeader c 0x11, x0, y0, r]) ∧
  ∀ (c : Colour) (x0 y0 r : Word16) (s : State), s.Inv → s.live = true →
    ∃ fb, exec (.circle c x0 y0 r) s = .next { s with fb := fb, replies := s.replies ++ [.op (.ok .unit)] } ∧
      PaintsExactly s.cfg c (circlePoints x0.toNat y0.toNat r.toNat) s.fb fb

/-- 41_rasterizer.md section 3: CIRCLE plots the four extrema and then the eight octant points of each round, and its loop
runs while `x < y`, at most `r` rounds. The increments and the points are the spec's own, from general knowledge
(92_eei_decisions.md D9, I-GK1; log 21). -/
def Obligations.CircleLoopRunsWhileXBelowY : Prop :=
  ∀ (x0 y0 : Int) (r : Nat),
    let lower : CircleVars → CircleVars := fun v =>
      if v.f ≥ 0 then { f := v.f + (v.ddFy + 2), ddFx := v.ddFx, ddFy := v.ddFy + 2, x := v.x, y := v.y - 1 } else v
    let round : CircleVars → CircleVars := fun v =>
      { f := (lower v).f + ((lower v).ddFx + 2), ddFx := (lower v).ddFx + 2, ddFy := (lower v).ddFy
        x := (lower v).x + 1, y := (lower v).y }
    let u : Nat → CircleVars := fun k => round^[k] { f := 1 - r, ddFx := 1, ddFy := -2 * r, x := 0, y := r }
    let octants : Int → Int → List (Int × Int) := fun x y =>
      [(x0 + x, y0 + y), (x0 - x, y0 + y), (x0 + x, y0 - y), (x0 - x, y0 - y),
       (x0 + y, y0 + x), (x0 - y, y0 + x), (x0 + y, y0 - x), (x0 - y, y0 - x)]
    ∃ n ≤ r,
      circlePoints x0 y0 r =
        [(x0, y0 + r), (x0, y0 - r), (x0 + r, y0), (x0 - r, y0)] ++
        (List.range n).flatMap (fun k => octants (u (k + 1)).x (u (k + 1)).y) ∧
      ¬ (u n).x < (u n).y ∧ ∀ k < n, (u k).x < (u k).y

/-- 41_rasterizer.md section 3: CIRCLE's pixel set is symmetric under both reflections through the centre and under swapping
the offsets; its number of distinct points for `r` from 0 to 6. It rests on the spec's own increments (92_eei_decisions.md D9,
I-GK1; log 21). -/
def Obligations.CircleIsSymmetric : Prop :=
  (∀ (x0 y0 : Int) (r : Nat) (x y : Int), (x, y) ∈ circlePoints x0 y0 r →
    (2 * x0 - x, y) ∈ circlePoints x0 y0 r ∧ (x, 2 * y0 - y) ∈ circlePoints x0 y0 r ∧
    (x0 + (y - y0), y0 + (x - x0)) ∈ circlePoints x0 y0 r) ∧
  (List.range 7).map (fun r => (circlePoints 0 0 r).dedup.length) = [1, 4, 12, 16, 24, 28, 32]

/-- R165: RECT fills its box, clipped to the grid, and nothing where its bounds are backwards; it returns OK and changes
nothing else. -/
def Obligations.RectFillsItsBox : Prop :=
  (∀ c x0 y0 x1 y1, encode (.rect c x0 y0 x1 y1) = [colourHeader c 0x12, x0, y0, x1, y1]) ∧
  ∀ (c : Colour) (x0 y0 x1 y1 : Word16) (s : State), s.Inv → s.live = true →
    ∃ fb, exec (.rect c x0 y0 x1 y1) s = .next { s with fb := fb, replies := s.replies ++ [.op (.ok .unit)] } ∧
      Mem.wf (fbSize s.cfg) fb = true ∧
      (x0.toNat > x1.toNat ∨ y0.toNat > y1.toNat → fb = s.fb) ∧
      ∀ x y : Nat, x < s.cfg.w → y < s.cfg.h →
        pixelAt s.cfg.w fb x y =
          if x0.toNat ≤ x ∧ x ≤ x1.toNat ∧ y0.toNat ≤ y ∧ y ≤ y1.toNat then (match c with | .set => 1 | .clr => 0)
          else pixelAt s.cfg.w s.fb x y

/-- R166: the three paths of the reference implementation of RECT leave exactly the framebuffer of RECT's pixel set. -/
def Obligations.RectPathsGiveTheSameFramebuffer : Prop :=
  ∀ (cfg : Config) (c : Colour) (x0 y0 x1 y1 : Nat) (fb : Mem), configLegal cfg = true → Mem.wf (fbSize cfg) fb = true →
    rectPaths cfg c x0 y0 x1 y1 fb = paint cfg.w cfg.h c (rectPoints x0 y0 x1 y1) fb

/-- R168, R35, R169: GLYPH rejects a bad code or anchor with INVALID_INPUT and nothing written; else it paints the set bits of its cell's
columns that are on the grid, returns OK, and changes nothing else. The column bytes are the table's. -/
def Obligations.GlyphPaintsItsCell : Prop :=
  (∀ c x y code, encode (.glyph c x y code) = [colourHeader c 0x13, x, y, code]) ∧
  (∀ (cfg : Config) (k i : Nat) (hk : k < 128) (hi : i < 5), glyphByte cfg k i = (cfg.glyph[k])[i]) ∧
  ∀ (c : Colour) (x y code : Word16) (s : State), s.Inv → s.live = true →
    (code.toNat > 127 ∨ x.toNat ≥ s.cfg.w ∨ y.toNat ≥ s.cfg.h →
      exec (.glyph c x y code) s = .next { s with replies := s.replies ++ [.op .invalidInput] }) ∧
    (code.toNat ≤ 127 → x.toNat < s.cfg.w → y.toNat < s.cfg.h →
      ∃ fb, exec (.glyph c x y code) s = .next { s with fb := fb, replies := s.replies ++ [.op (.ok .unit)] } ∧
        Mem.wf (fbSize s.cfg) fb = true ∧
        ∀ px py : Nat, px < s.cfg.w → py < s.cfg.h →
          pixelAt s.cfg.w fb px py =
            if x.toNat ≤ px ∧ px ≤ x.toNat + 4 ∧ y.toNat ≤ py ∧ py ≤ y.toNat + 7 ∧
                (glyphByte s.cfg code.toNat (px - x.toNat)).getLsbD (py - y.toNat) = true
            then (match c with | .set => 1 | .clr => 0) else pixelAt s.cfg.w s.fb px py)

/-- R170: GLYPH in byte form leaves exactly the framebuffer of GLYPH's pixel set; both take their columns from the table. -/
def Obligations.GlyphBytesGiveTheSameFramebuffer : Prop :=
  ∀ (cfg : Config) (c : Colour) (x y code : Nat) (fb : Mem), configLegal cfg = true → Mem.wf (fbSize cfg) fb = true →
    code ≤ 127 → x < cfg.w → y < cfg.h →
    glyphBytes cfg c x y code fb = paint cfg.w cfg.h c (glyphPoints cfg x y code) fb ∧
      ∀ (hk : code < 128) (i : Nat) (hi : i < 5), glyphByte cfg code i = (cfg.glyph[code])[i]

/-- R171: a page-aligned glyph writes one page row; a shifted one writes its page row and the next, whose shifted union is the
glyph where the cell was clear; no byte outside the cell's columns changes; after INVALID_INPUT no byte has changed. -/
def Obligations.GlyphPageLaws : Prop :=
  (∀ (cfg : Config) (k i : Nat) (hk : k < 128) (hi : i < 5), glyphByte cfg k i = (cfg.glyph[k])[i]) ∧
  ∀ (c : Colour) (x y code : Word16) (s t : State), s.Inv → s.live = true → exec (.glyph c x y code) s = .next t →
    (y.toNat % 8 = 0 → ∀ i, i / s.cfg.w ≠ y.toNat / 8 → Mem.read t.fb i = Mem.read s.fb i) ∧
    (y.toNat % 8 ≠ 0 → y.toNat / 8 + 1 < pageCount s.cfg →
      (∀ i, i / s.cfg.w ≠ y.toNat / 8 → i / s.cfg.w ≠ y.toNat / 8 + 1 → Mem.read t.fb i = Mem.read s.fb i) ∧
      (c = .set → ¬ glyphRejects s.cfg x.toNat y.toNat code.toNat →
        (∀ i < 5, ∀ k < 8, x.toNat + i < s.cfg.w → pixelAt s.cfg.w s.fb (x.toNat + i) (y.toNat + k) = 0) →
        ∀ i < 5, x.toNat + i < s.cfg.w →
          (Mem.read t.fb (y.toNat / 8 * s.cfg.w + x.toNat + i) >>> (y.toNat % 8)) |||
            (Mem.read t.fb ((y.toNat / 8 + 1) * s.cfg.w + x.toNat + i) <<< (8 - y.toNat % 8)) =
          glyphByte s.cfg code.toNat i)) ∧
    (∀ i, i % s.cfg.w < x.toNat ∨ i % s.cfg.w > min (x.toNat + 4) (s.cfg.w - 1) → Mem.read t.fb i = Mem.read s.fb i) ∧
    (t.replies = s.replies ++ [.op .invalidInput] → t.fb = s.fb)

/-! ## Framer operations -/

/-- R103, R211, R104: the prefix of a frame by its kind and payload length, a length of 0 counting as not 1; a receiver can
tell a frame's kind and length class from its prefix alone. -/
def Obligations.PrefixByKindAndLength : Prop :=
  (∀ (cfg : Config) (n : Nat),
    selectPfx cfg .cmd 1 = cfg.pfxCmdSingle ∧ (n ≠ 1 → selectPfx cfg .cmd n = cfg.pfxCmdMulti) ∧
    selectPfx cfg .data 1 = cfg.pfxDataSingle ∧ (n ≠ 1 → selectPfx cfg .data n = cfg.pfxDataMulti)) ∧
  (∀ (cfg : Config) (k k' : FrameKind) (n n' : Nat), configLegal cfg = true →
    selectPfx cfg k n = selectPfx cfg k' n' → k = k' ∧ (n = 1 ↔ n' = 1))

/-- R213: the chunks of a payload. -/
def Obligations.ChunksOfAPayload : Prop :=
  ∀ (c : Nat) (s : List Byte), 1 ≤ c →
    (chunks c s).length = (s.length + c - 1) / c ∧ (chunks c s).flatten = s ∧
    (∀ k, k + 1 < (chunks c s).length → ((chunks c s).getD k []).length = c) ∧
    (∀ k, k + 1 = (chunks c s).length →
      ((chunks c s).getD k []).length = s.length - ((s.length + c - 1) / c - 1) * c ∧
      1 ≤ ((chunks c s).getD k []).length ∧ ((chunks c s).getD k []).length ≤ c) ∧
    (∀ k, k < (chunks c s).length → (chunks c s).getD k [] = (s.drop (k * c)).take (min ((k + 1) * c) s.length - k * c))

/-- R214: SENDCMD sends one command frame with the whole payload and reports its outcome; without an interface it returns
NO_INTERFACE. R312, and the model's choice (log 8): a write that never returns leaves no TXLOG entry and no result, and stalls
the machine. -/
def Obligations.SendCmdSendsOneFrame : Prop :=
  (∀ p, encode (.sendCmd p) = 0x0020 :: BitVec.ofNat 16 p.length :: packBytes p) ∧
  ∀ (p : List Byte) (s : State), s.live = true →
    (s.cfg.iface = .none → exec (.sendCmd p) s = .next { s with replies := s.replies ++ [.op .noInterface] }) ∧
    (s.cfg.iface = .bus → SendsFrames (exec (.sendCmd p) s) s .cmd [p])

/-- R215: SENDDATA sends one data frame with the whole payload and reports its outcome; without an interface it returns
NO_INTERFACE. R312, and the model's choice (log 8): a write that never returns leaves no TXLOG entry and no result, and stalls
the machine. -/
def Obligations.SendDataSendsOneFrame : Prop :=
  (∀ p, encode (.sendData p) = 0x0021 :: BitVec.ofNat 16 p.length :: packBytes p) ∧
  ∀ (p : List Byte) (s : State), s.live = true →
    (s.cfg.iface = .none → exec (.sendData p) s = .next { s with replies := s.replies ++ [.op .noInterface] }) ∧
    (s.cfg.iface = .bus → SendsFrames (exec (.sendData p) s) s .data [p])

/-- R216: SENDCHUNKED sends the payload's chunks in order as data frames, each with the prefix of its own length, up to the
first write that fails; no chunk is too long; without an interface it returns NO_INTERFACE. R312, and the model's
choice (log 8): a chunk whose write never returns leaves no TXLOG entry and no result, and stalls the machine. -/
def Obligations.SendChunkedSendsTheChunks : Prop :=
  (∀ p, encode (.sendChunked p) = 0x0022 :: BitVec.ofNat 16 p.length :: packBytes p) ∧
  ∀ (p : List Byte) (s : State), s.live = true →
    (s.cfg.iface = .none → exec (.sendChunked p) s = .next { s with replies := s.replies ++ [.op .noInterface] }) ∧
    (s.cfg.iface = .bus → SendsFrames (exec (.sendChunked p) s) s .data (chunks s.cfg.chunk p)) ∧
    (configLegal s.cfg = true → anyOversize s.cfg (chunks s.cfg.chunk p) = false)

/-- R217, R75: FLUSH sends the framebuffer as it stands at its start, in index order, in chunks as data frames, up to the
first write that fails; with chunks of 32 every frame has the prefix of a longer frame; without an interface it returns
NO_INTERFACE. R312, and the model's choice (log 8): a chunk whose write never returns leaves no TXLOG entry and no result,
and stalls the machine. -/
def Obligations.FlushSendsTheFramebuffer : Prop :=
  encode .flush = [0x0023] ∧
  ∀ s : State, s.live = true →
    let frames := chunks s.cfg.chunk ((List.range (fbSize s.cfg)).map fun i => Mem.read s.fb i)
    (s.cfg.iface = .none → exec .flush s = .next { s with replies := s.replies ++ [.op .noInterface] }) ∧
    (s.cfg.iface = .bus → SendsFrames (exec .flush s) s .data frames) ∧
    (configLegal s.cfg = true → frames.length = (fbSize s.cfg + s.cfg.chunk - 1) / s.cfg.chunk) ∧
    (configLegal s.cfg = true → s.cfg.chunk = 32 → ∀ p ∈ frames, selectPfx s.cfg .data p.length = s.cfg.pfxDataMulti)

/-- R222: with 128 x 64 pixels, chunks of 32 and a transport that answers `ok`, FLUSH appends exactly 32 data frames of 32
bytes, entry `k` holding bytes `32k .. 32k+31`. -/
def Obligations.FullFrameIsThirtyTwoDataFrames : Prop :=
  ∀ s : State, s.live = true → s.cfg.iface = .bus → s.cfg.w = 128 → s.cfg.h = 64 → s.cfg.chunk = 32 → s.okBefore 32 →
    ∃ t, exec .flush s = .next t ∧ t.txLog.length = s.txLog.length + 32 ∧ t.txLog.take s.txLog.length = s.txLog ∧
      ∀ k < 32, t.txLog[s.txLog.length + k]? =
        some ⟨s.cfg.busAddr, s.cfg.pfxDataMulti, (List.range 32).map (fun j => Mem.read s.fb (32 * k + j)), .ok⟩

/-- R218: no framer operation but SENDCMD and SENDDATA sets OVERSIZE, and these set it where the payload is longer than
MAX_XFER. -/
def Obligations.OversizeBySingleFramesOnly : Prop :=
  ∀ (i : Instr) (s t : State), configLegal s.cfg = true → exec i s = .next t →
    ((∀ p, i ≠ .sendCmd p) → (∀ p, i ≠ .sendData p) → t.oversize = s.oversize) ∧
    (∀ p, i = .sendCmd p ∨ i = .sendData p → s.live = true → s.cfg.iface = .bus →
      t.oversize = (s.oversize || decide (p.length > s.cfg.maxXfer)))

/-- R219, R255: without an interface every framer operation returns NO_INTERFACE, issues no write and changes no state; the
other operations do the same whatever the interface is. -/
def Obligations.NoInterfaceNoWrite : Prop :=
  (∀ (i : Instr) (s : State), isFramer i = true → s.live = true → s.cfg.iface = .none →
    exec i s = .next { s with replies := s.replies ++ [.op .noInterface] }) ∧
  (∀ (i : Instr) (s : State) (f : Iface), isFramer i = false →
    ∃ t, exec i s = .next t ∧ t.cfg = s.cfg ∧
      exec i { s with cfg := { s.cfg with iface := f } } = .next { t with cfg := { s.cfg with iface := f } })

/-- R221, R43: a framer operation changes only TXLOG, OVERSIZE, the answers, the draws used up and, where a write never
returns, the stall. -/
def Obligations.FramerFrame : Prop :=
  ∀ (i : Instr) (s t : State), isFramer i = true → s.live = true → exec i s = .next t →
    t.cfg = s.cfg ∧ t.fb = s.fb ∧ t.live = s.live ∧ t.fault = s.fault ∧ t.session = s.session ∧ t.resetLog = s.resetLog ∧
    t.pending = s.pending ∧ (s.stalled = true → t.stalled = true) ∧ (s.oversize = true → t.oversize = true)

/-- R32, R36, R40: an operation that is no framer operation changes nothing but the framebuffer and the answers; QUERY and
SNAPSHOT change no byte either. -/
def Obligations.DrawingFrame : Prop :=
  ∀ (i : Instr) (s t : State), isFramer i = false → s.live = true → exec i s = .next t →
    t = { s with fb := t.fb, replies := t.replies } ∧ (drawsPixels i = false → t.fb = s.fb)

/-- R105: the framer never looks at payload content: payloads of one length give the same results, marks, prefixes and
outcomes. -/
def Obligations.FramerIgnoresPayloadContent : Prop :=
  ∀ (p q : List Byte) (s : State), p.length = q.length →
    ∀ f : List Byte → Instr, (f = .sendCmd ∨ f = .sendData ∨ f = .sendChunked) →
      ∃ t u, exec (f p) s = .next t ∧ exec (f q) s = .next u ∧ u = { t with txLog := u.txLog } ∧
        t.txLog.map (fun e => (e.addr, e.pfx, e.payload.length, e.outcome)) =
          u.txLog.map (fun e => (e.addr, e.pfx, e.payload.length, e.outcome))

/-- R42, R38: no operation reads TXLOG or an earlier result: with any history before it, it appends the same entries and the
same answer and ends in the same state otherwise. -/
def Obligations.HistoryIsNeverRead : Prop :=
  ∀ (i : Instr) (s : State), ∃ t, exec i { s with txLog := [], replies := [] } = .next t ∧
    ∀ (l : List TxEntry) (m : List Reply),
      exec i { s with txLog := l, replies := m } = .next { t with txLog := l ++ t.txLog, replies := m ++ t.replies }

/-! ## Results and the session -/

/-- R257: what the state is after each result other than OK. -/
def Obligations.StateAfterAnError : Prop :=
  ∀ (i : Instr) (s t : State) (r : Result), exec i s = .next t → t.replies = s.replies ++ [.op r] →
    ((r = .invalidInput ∨ r = .outOfRange ∨ r = .illegal ∨ r = .noInterface) →
      t = { s with replies := s.replies ++ [.op r] }) ∧
    (∀ k e, r = .transportError k e →
      t.fb = s.fb ∧ t.cfg = s.cfg ∧ t.txLog.length = s.txLog.length + (k + 1) ∧
      (∀ j < k, (t.txLog[s.txLog.length + j]?).map TxEntry.outcome = some .ok) ∧
      (t.txLog[s.txLog.length + k]?).map TxEntry.outcome = some (.err e))

/-- R251, R252, R253, R254, R255: which operation returns which result, and when GLYPH and QUERY return theirs. -/
def Obligations.WhoReturnsWhichError : Prop :=
  ∀ (i : Instr) (s t : State) (r : Result), s.live = true → exec i s = .next t → t.replies = s.replies ++ [.op r] →
    (r = .invalidInput ↔ ∃ c x y code, i = .glyph c x y code ∧
      (code.toNat > 127 ∨ x.toNat ≥ s.cfg.w ∨ y.toNat ≥ s.cfg.h)) ∧
    (r = .outOfRange ↔ ∃ x y, i = .query x y ∧ (x.toNat ≥ s.cfg.w ∨ y.toNat ≥ s.cfg.h)) ∧
    (r = .noInterface ↔ isFramer i = true ∧ s.cfg.iface = .none) ∧
    (∀ k e, r = .transportError k e → isFramer i = true ∧ s.cfg.iface = .bus) ∧ r ≠ .illegal

/-- R277: `setup` in Configured pulses the reset line, low, hold, high, sends the bring-up sequence as one command frame and
makes the session Active. That the reset control sees these calls and, where the host sets the direction in `setup`, one
`set_direction(out)` before them, is the model's choice (log 17). -/
def Obligations.SetupConfiguresTheDisplay : Prop :=
  ∀ s : State, s.session = .configured → s.live = true → s.cfg.iface = .bus →
    s.okBefore (3 + s.cfg.dirInSetup.toNat) →
    sessionCall .setup s = .next { s.afterDraws (3 + s.cfg.dirInSetup.toNat) with
      session := .active
      resetLog := s.resetLog ++ directionCalls s.cfg.dirInSetup ++ [.called (.setValue false) .ok, .hold, .called (.setValue true) .ok]
      txLog := s.txLog ++ [frameEntry s.cfg .cmd .ok s.cfg.bringUpSeq]
      oversize := s.oversize || decide (s.cfg.bringUpSeq.length > s.cfg.maxXfer)
      replies := s.replies ++ [.op (.ok .unit), .session .ok] }

/-- R278: `setup` stops at its first failing step, returns that failure, and leaves the session Configured. The model's
choices: where the direction is set, which makes it the first call or none (log 17), and that NO_INTERFACE is a failure like
the others (log 15). -/
def Obligations.SetupStopsAtItsFirstFailure : Prop :=
  ∀ (s : State) (e : IoError), s.session = .configured → s.live = true →
    let d := s.cfg.dirInSetup.toNat
    let before := s.resetLog ++ directionCalls s.cfg.dirInSetup
    (s.cfg.dirInSetup = true → s.drawAt 0 = .returns (.err e) →
      sessionCall .setup s = .next { s.afterDraws 1 with
        resetLog := s.resetLog ++ [.called .setDirectionOut (.err e)]
        replies := s.replies ++ [.session (.resetControl .setDirectionOut e)] }) ∧
    (s.okBefore d → s.drawAt d = .returns (.err e) →
      sessionCall .setup s = .next { s.afterDraws (1 + d) with
        resetLog := before ++ [.called (.setValue false) (.err e)]
        replies := s.replies ++ [.session (.resetControl (.setValue false) e)] }) ∧
    (s.okBefore (1 + d) → s.drawAt (1 + d) = .returns (.err e) →
      sessionCall .setup s = .next { s.afterDraws (2 + d) with
        resetLog := before ++ [.called (.setValue false) .ok, .hold, .called (.setValue true) (.err e)]
        replies := s.replies ++ [.session (.resetControl (.setValue true) e)] }) ∧
    (s.cfg.iface = .none → s.okBefore (2 + d) →
      sessionCall .setup s = .next { s.afterDraws (2 + d) with
        resetLog := before ++ [.called (.setValue false) .ok, .hold, .called (.setValue true) .ok]
        replies := s.replies ++ [.op .noInterface, .session (.block .noInterface)] }) ∧
    (s.cfg.iface = .bus → s.okBefore (2 + d) → s.drawAt (2 + d) = .returns (.err e) →
      sessionCall .setup s = .next { s.afterDraws (3 + d) with
        resetLog := before ++ [.called (.setValue false) .ok, .hold, .called (.setValue true) .ok]
        txLog := s.txLog ++ [frameEntry s.cfg .cmd (.err e) s.cfg.bringUpSeq]
        oversize := s.oversize || decide (s.cfg.bringUpSeq.length > s.cfg.maxXfer)
        replies := s.replies ++ [.op (.transportError 0 e), .session (.block (.transportError 0 e))] })

/-- R279, R280: `draw` in Active runs FLUSH with the session Flushing and returns to Active with FLUSH's result, whatever it
is. R312, and the model's choice (logs 8, 28): where a write of FLUSH never returns, the session stays Flushing and the machine
is stalled. -/
def Obligations.DrawRunsFlush : Prop :=
  ∀ s : State, s.session = .active → s.live = true →
    ∃ u, exec .flush { s with session := .flushing } = .next u ∧
      (∀ r, u.replies = s.replies ++ [.op r] →
        sessionCall .draw s = .next { u with
          session := .active
          replies := s.replies ++ [.op r, .session (if r = .ok .unit then .ok else .block r)] }) ∧
      (u.replies = s.replies → sessionCall .draw s = .next u ∧ u.session = .flushing ∧ u.stalled = true)

/-- R281: `close` sends the power-off opcode as a single command frame, releases the reset control only after that went well,
and ends Closed with the block destroyed in each case. The model's choices: that no `set_direction(out)` is among its calls
(log 17), and that NO_INTERFACE is a failure of the power-off command like a transport error (log 15). -/
def Obligations.CloseDestroysTheBlock : Prop :=
  ∀ s : State, (s.session = .configured ∨ s.session = .active) → s.live = true →
    let tooLong := s.oversize || decide (1 > s.cfg.maxXfer)
    (s.cfg.iface = .bus → s.okBefore 2 →
      sessionCall .close s = .next { s.afterDraws 2 with
        live := false, session := .closed, oversize := tooLong
        txLog := s.txLog ++ [⟨s.cfg.busAddr, s.cfg.pfxCmdSingle, [s.cfg.powerOffOpc], .ok⟩]
        resetLog := s.resetLog ++ [.called .release .ok]
        replies := s.replies ++ [.op (.ok .unit), .session .ok] }) ∧
    (∀ e, s.cfg.iface = .bus → s.drawAt 0 = .returns (.err e) →
      sessionCall .close s = .next { s.afterDraws 1 with
        live := false, session := .closed, oversize := tooLong
        txLog := s.txLog ++ [⟨s.cfg.busAddr, s.cfg.pfxCmdSingle, [s.cfg.powerOffOpc], .err e⟩]
        replies := s.replies ++ [.op (.transportError 0 e), .session (.block (.transportError 0 e))] }) ∧
    (∀ e, s.cfg.iface = .bus → s.okBefore 1 → s.drawAt 1 = .returns (.err e) →
      sessionCall .close s = .next { s.afterDraws 2 with
        live := false, session := .closed, oversize := tooLong
        txLog := s.txLog ++ [⟨s.cfg.busAddr, s.cfg.pfxCmdSingle, [s.cfg.powerOffOpc], .ok⟩]
        resetLog := s.resetLog ++ [.called .release (.err e)]
        replies := s.replies ++ [.op (.ok .unit), .session (.resetControl .release e)] }) ∧
    (s.cfg.iface = .none →
      sessionCall .close s = .next { s with
        live := false, session := .closed
        replies := s.replies ++ [.op .noInterface, .session (.block .noInterface)] })

/-- R284 (a) to (e), R282, R39, R41: each violation of the host contract sets FAULT. The model's choices: that it has no other
effect and the machine goes on (log 13), that overlapping use is an event of the input (log 12), that `open` elsewhere than in
Uninitialized (log 16) and `close` in Uninitialized or Flushing (log 32) set FAULT too. -/
def Obligations.ContractViolationsSetFault : Prop :=
  (∀ s : State, s.session ≠ .active → sessionCall .draw s = .next { s with fault := true }) ∧
  (∀ s : State, s.session ≠ .configured → sessionCall .setup s = .next { s with fault := true }) ∧
  (∀ (s : State) (cfg : Config), s.session ≠ .uninitialized →
    sessionCall (.openBlock cfg) s = .next { s with fault := true }) ∧
  (∀ s : State, s.session ≠ .configured → s.session ≠ .active → sessionCall .close s = .next { s with fault := true }) ∧
  (∀ (s : State) (c : SessionCall), s.session = .closed → sessionCall c s = .next { s with fault := true }) ∧
  (∀ (s : State) (i : Instr), s.live = false → exec i s = .next { s with fault := true }) ∧
  (∀ s : State, s.Inv → s.session = .closed → s.live = false) ∧
  (∀ (s : State) (rest : List HostInput), s.stalled = false → s.pending = .overlap :: rest →
    step s = .next { s with pending := rest, fault := true })
end

