-- ==== Sys2Proof/Laws/Memory.lean ====
section
/-! SUPPORT. The framebuffer's bytes: read after write, and every memory operation keeps the canonical form. -/

namespace Sys2Proof.Machine

theorem mem_wfFrom_cons {nb lo i : Nat} {b : Byte} {r : Mem} :
    Mem.wfFrom nb lo ((i, b) :: r) = true ↔ lo ≤ i ∧ i < nb ∧ b ≠ 0 ∧ Mem.wfFrom nb (i + 1) r = true := by
  simp [Mem.wfFrom, and_assoc]

theorem mem_wfFrom_mono {nb lo lo' : Nat} {m : Mem} (h : Mem.wfFrom nb lo m = true) (hl : lo' ≤ lo) :
    Mem.wfFrom nb lo' m = true := by
  cases m with
  | nil => rfl
  | cons c r =>
    obtain ⟨i, b⟩ := c
    rw [mem_wfFrom_cons] at h ⊢
    exact ⟨by omega, h.2⟩

/-- Below the first index a canonical list holds, every byte reads zero. -/
theorem mem_read_below {nb lo i : Nat} {m : Mem} (h : Mem.wfFrom nb lo m = true) (hi : i < lo) : Mem.read m i = 0 := by
  cases m with
  | nil => rfl
  | cons c r =>
    obtain ⟨j, b⟩ := c
    rw [mem_wfFrom_cons] at h
    simp [Mem.read, show i < j by omega]

theorem mem_read_write_from {nb lo : Nat} (m : Mem) (i j : Nat) (v : Byte) (h : Mem.wfFrom nb lo m = true) :
    Mem.read (Mem.write m i v) j = if j = i then v else Mem.read m j := by
  induction m generalizing lo with
  | nil =>
    unfold Mem.write
    split_ifs <;> simp only [Mem.read] <;> (try split_ifs) <;> first | rfl | omega | simp_all
  | cons c r ih =>
    obtain ⟨k, b⟩ := c
    rw [mem_wfFrom_cons] at h
    have below : ∀ n, n < k + 1 → Mem.read r n = 0 := fun n hn => mem_read_below h.2.2.2 hn
    simp only [Mem.write]
    split_ifs <;> (try simp only [Mem.read, ih h.2.2.2]) <;> (try split_ifs) <;>
      first | rfl | omega | exact below _ (by omega) | (subst_vars; first | rfl | exact below _ (by omega))

/-- A read gives the byte written at the written index, and what it gave before at every other. -/
theorem mem_read_write {nb : Nat} {m : Mem} (h : Mem.wf nb m = true) (i j : Nat) (v : Byte) :
    Mem.read (Mem.write m i v) j = if j = i then v else Mem.read m j := mem_read_write_from m i j v h

theorem mem_wfFrom_write {nb lo : Nat} (m : Mem) (i : Nat) (v : Byte) (h : Mem.wfFrom nb lo m = true) (hl : lo ≤ i)
    (hi : i < nb) : Mem.wfFrom nb lo (Mem.write m i v) = true := by
  induction m generalizing lo with
  | nil =>
    unfold Mem.write
    split_ifs with hv
    · rfl
    · exact mem_wfFrom_cons.2 ⟨hl, hi, hv, rfl⟩
  | cons c r ih =>
    obtain ⟨k, b⟩ := c
    have hr := h
    rw [mem_wfFrom_cons] at h
    simp only [Mem.write]
    split_ifs with h1 h2 h3 h4
    · exact hr
    · rw [mem_wfFrom_cons, mem_wfFrom_cons]; exact ⟨hl, hi, h2, by omega, h.2⟩
    · exact mem_wfFrom_mono h.2.2.2 (by omega)
    · rw [mem_wfFrom_cons]; exact ⟨hl, hi, h4, h3 ▸ h.2.2.2⟩
    · rw [mem_wfFrom_cons]; exact ⟨h.1, h.2.1, h.2.2.1, ih h.2.2.2 (by omega)⟩

/-- Writing inside the framebuffer keeps the canonical form. -/
theorem mem_wf_write {nb : Nat} {m : Mem} (h : Mem.wf nb m = true) {i : Nat} (hi : i < nb) (v : Byte) :
    Mem.wf nb (Mem.write m i v) = true := mem_wfFrom_write m i v h (Nat.zero_le _) hi

theorem mem_wfFrom_range' (nb : Nat) (v : Byte) (hv : v ≠ 0) (n a : Nat) (h : a + n ≤ nb) :
    Mem.wfFrom nb a ((List.range' a n).map fun i => (i, v)) = true := by
  induction n generalizing a with
  | zero => rfl
  | succ n ih =>
    rw [List.range'_succ, List.map_cons, mem_wfFrom_cons]
    exact ⟨le_refl _, by omega, hv, ih (a + 1) (by omega)⟩

/-- Filling gives the canonical form. -/
theorem mem_wf_fill (nb : Nat) (v : Byte) : Mem.wf nb (Mem.fill nb v) = true := by
  unfold Mem.fill
  split_ifs with hv
  · rfl
  · rw [List.range_eq_range']; exact mem_wfFrom_range' nb v hv nb 0 (by omega)

theorem mem_read_range' (v : Byte) (n a i : Nat) :
    Mem.read ((List.range' a n).map fun j => (j, v)) i = if a ≤ i ∧ i < a + n then v else 0 := by
  induction n generalizing a with
  | zero => simp [Mem.read]
  | succ n ih =>
    rw [List.range'_succ, List.map_cons]
    simp only [Mem.read, ih]
    split_ifs <;> first | rfl | omega

/-- After a fill every byte of the framebuffer is the fill byte. -/
theorem mem_read_fill {nb i : Nat} (hi : i < nb) (v : Byte) : Mem.read (Mem.fill nb v) i = v := by
  unfold Mem.fill
  split_ifs with hv
  · rw [hv]; rfl
  · rw [List.range_eq_range', mem_read_range']; simp [hi]

/-- Two canonical framebuffers that read alike everywhere are the same list. -/
theorem mem_ext_from {nb lo : Nat} {a b : Mem} (ha : Mem.wfFrom nb lo a = true) (hb : Mem.wfFrom nb lo b = true)
    (h : ∀ i, Mem.read a i = Mem.read b i) : a = b := by
  induction a generalizing b lo with
  | nil =>
    cases b with
    | nil => rfl
    | cons c r =>
      obtain ⟨k, v⟩ := c
      rw [mem_wfFrom_cons] at hb
      have := h k
      simp [Mem.read] at this
      exact absurd this.symm hb.2.2.1
  | cons c r ih =>
    obtain ⟨k, v⟩ := c
    rw [mem_wfFrom_cons] at ha
    cases b with
    | nil =>
      have := h k
      simp [Mem.read] at this
      exact absurd this ha.2.2.1
    | cons d q =>
      obtain ⟨l, u⟩ := d
      rw [mem_wfFrom_cons] at hb
      have hk : k = l := by
        rcases Nat.lt_trichotomy k l with hlt | heq | hgt
        · have := h k; simp [Mem.read, hlt] at this; exact absurd this ha.2.2.1
        · exact heq
        · have := h l; simp [Mem.read, hgt] at this; exact absurd this.symm hb.2.2.1
      subst hk
      have hv : v = u := by have := h k; simpa [Mem.read] using this
      subst hv
      refine congrArg _ (ih ha.2.2.2 hb.2.2.2 fun i => ?_)
      by_cases hi : i ≤ k
      · rw [mem_read_below ha.2.2.2 (by omega), mem_read_below hb.2.2.2 (by omega)]
      · have := h i
        simpa [Mem.read, show ¬ i < k by omega, show ¬ i = k by omega] using this

theorem mem_ext {nb : Nat} {a b : Mem} (ha : Mem.wf nb a = true) (hb : Mem.wf nb b = true)
    (h : ∀ i, Mem.read a i = Mem.read b i) : a = b := mem_ext_from ha hb h

/-- What a masked update can do (R131): one byte, by OR or AND-NOT. -/
theorem read_applyMask {nb : Nat} {fb : Mem} (h : Mem.wf nb fb = true) (i j : Nat) (m : Byte) (c : Colour) :
    Mem.read (applyMask i m c fb) j = if j = i then maskByte (Mem.read fb i) m c else Mem.read fb j :=
  mem_read_write h i j _

theorem wf_applyMask {nb : Nat} {fb : Mem} (h : Mem.wf nb fb = true) {i : Nat} (hi : i < nb) (m : Byte) (c : Colour) :
    Mem.wf nb (applyMask i m c fb) = true := mem_wf_write h hi _

/-- The byte of an in-range pixel lies in the framebuffer (R61). -/
theorem pixelIndex_lt {w h x y : Nat} (hh : h % 8 = 0) (hx : x < w) (hy : y < h) : pixelIndex w x y < w * h / 8 := by
  obtain ⟨p, rfl⟩ : ∃ p, h = 8 * p := ⟨h / 8, by omega⟩
  have hp : y / 8 < p := by omega
  have e : w * (8 * p) / 8 = w * p := by rw [Nat.mul_left_comm, Nat.mul_div_cancel_left _ (by omega)]
  rw [e]
  calc pixelIndex w x y < w * (y / 8) + w := by simp [pixelIndex, hx]
    _ = w * (y / 8 + 1) := by ring
    _ ≤ w * p := Nat.mul_le_mul_left _ hp

/-- Plotting keeps the canonical form, on the grid and off it. -/
theorem wf_plot {w h : Nat} {fb : Mem} (hh : h % 8 = 0) (hf : Mem.wf (w * h / 8) fb = true) (c : Colour) (p : Int × Int) :
    Mem.wf (w * h / 8) (plot w h c fb p) = true := by
  unfold plot
  split_ifs with hp
  · exact wf_applyMask hf (pixelIndex_lt hh (by omega) (by omega)) _ _
  · exact hf

/-- Painting keeps the canonical form. -/
theorem wf_paint {w h : Nat} {fb : Mem} (hh : h % 8 = 0) (hf : Mem.wf (w * h / 8) fb = true) (c : Colour)
    (pts : List (Int × Int)) : Mem.wf (w * h / 8) (paint w h c pts fb) = true := by
  induction pts generalizing fb with
  | nil => exact hf
  | cons p ps ih => exact ih (wf_plot hh hf c p)

/-- Painting one list and then another is painting both in order. -/
theorem paint_append (w h : Nat) (c : Colour) (a b : List (Int × Int)) (fb : Mem) :
    paint w h c (a ++ b) fb = paint w h c b (paint w h c a fb) := by simp [paint]

/-- The snapshot has `nb` bytes, byte `i` being `FB[i]` (R135). -/
theorem bytes_length (nb : Nat) (m : Mem) : (Mem.bytes nb m).length = nb := by simp [Mem.bytes]

theorem bytes_get {nb i : Nat} (m : Mem) (hi : i < nb) : (Mem.bytes nb m)[i]? = some (Mem.read m i) := by
  simp [Mem.bytes, hi]

end Sys2Proof.Machine
end

