-- ==== Sys2Proof/Laws/State.lean ====
section
/-! SUPPORT. One lemma per field per update of the state, so that no later proof unfolds a record update. -/

namespace Sys2Proof.Machine

@[simp] theorem state_markFault_cfg (s : State) : (s.markFault).cfg = s.cfg := rfl
@[simp] theorem state_markFault_fb (s : State) : (s.markFault).fb = s.fb := rfl
@[simp] theorem state_markFault_live (s : State) : (s.markFault).live = s.live := rfl
@[simp] theorem state_markFault_fault (s : State) : (s.markFault).fault = true := rfl
@[simp] theorem state_markFault_oversize (s : State) : (s.markFault).oversize = s.oversize := rfl
@[simp] theorem state_markFault_txLog (s : State) : (s.markFault).txLog = s.txLog := rfl
@[simp] theorem state_markFault_session (s : State) : (s.markFault).session = s.session := rfl
@[simp] theorem state_markFault_resetLog (s : State) : (s.markFault).resetLog = s.resetLog := rfl
@[simp] theorem state_markFault_replies (s : State) : (s.markFault).replies = s.replies := rfl
@[simp] theorem state_markFault_pending (s : State) : (s.markFault).pending = s.pending := rfl
@[simp] theorem state_markFault_script (s : State) : (s.markFault).script = s.script := rfl
@[simp] theorem state_markFault_draws (s : State) : (s.markFault).draws = s.draws := rfl
@[simp] theorem state_markFault_stalled (s : State) : (s.markFault).stalled = s.stalled := rfl

@[simp] theorem state_stall_cfg (s : State) : (s.stall).cfg = s.cfg := rfl
@[simp] theorem state_stall_fb (s : State) : (s.stall).fb = s.fb := rfl
@[simp] theorem state_stall_live (s : State) : (s.stall).live = s.live := rfl
@[simp] theorem state_stall_fault (s : State) : (s.stall).fault = s.fault := rfl
@[simp] theorem state_stall_oversize (s : State) : (s.stall).oversize = s.oversize := rfl
@[simp] theorem state_stall_txLog (s : State) : (s.stall).txLog = s.txLog := rfl
@[simp] theorem state_stall_session (s : State) : (s.stall).session = s.session := rfl
@[simp] theorem state_stall_resetLog (s : State) : (s.stall).resetLog = s.resetLog := rfl
@[simp] theorem state_stall_replies (s : State) : (s.stall).replies = s.replies := rfl
@[simp] theorem state_stall_pending (s : State) : (s.stall).pending = s.pending := rfl
@[simp] theorem state_stall_script (s : State) : (s.stall).script = s.script := rfl
@[simp] theorem state_stall_draws (s : State) : (s.stall).draws = s.draws := rfl
@[simp] theorem state_stall_stalled (s : State) : (s.stall).stalled = true := rfl

@[simp] theorem state_hold_cfg (s : State) : (s.hold).cfg = s.cfg := rfl
@[simp] theorem state_hold_fb (s : State) : (s.hold).fb = s.fb := rfl
@[simp] theorem state_hold_live (s : State) : (s.hold).live = s.live := rfl
@[simp] theorem state_hold_fault (s : State) : (s.hold).fault = s.fault := rfl
@[simp] theorem state_hold_oversize (s : State) : (s.hold).oversize = s.oversize := rfl
@[simp] theorem state_hold_txLog (s : State) : (s.hold).txLog = s.txLog := rfl
@[simp] theorem state_hold_session (s : State) : (s.hold).session = s.session := rfl
@[simp] theorem state_hold_resetLog (s : State) : (s.hold).resetLog = s.resetLog ++ [.hold] := rfl
@[simp] theorem state_hold_replies (s : State) : (s.hold).replies = s.replies := rfl
@[simp] theorem state_hold_pending (s : State) : (s.hold).pending = s.pending := rfl
@[simp] theorem state_hold_script (s : State) : (s.hold).script = s.script := rfl
@[simp] theorem state_hold_draws (s : State) : (s.hold).draws = s.draws := rfl
@[simp] theorem state_hold_stalled (s : State) : (s.hold).stalled = s.stalled := rfl

@[simp] theorem state_reply_cfg (a : Reply) (s : State) : (s.reply a).cfg = s.cfg := rfl
@[simp] theorem state_reply_fb (a : Reply) (s : State) : (s.reply a).fb = s.fb := rfl
@[simp] theorem state_reply_live (a : Reply) (s : State) : (s.reply a).live = s.live := rfl
@[simp] theorem state_reply_fault (a : Reply) (s : State) : (s.reply a).fault = s.fault := rfl
@[simp] theorem state_reply_oversize (a : Reply) (s : State) : (s.reply a).oversize = s.oversize := rfl
@[simp] theorem state_reply_txLog (a : Reply) (s : State) : (s.reply a).txLog = s.txLog := rfl
@[simp] theorem state_reply_session (a : Reply) (s : State) : (s.reply a).session = s.session := rfl
@[simp] theorem state_reply_resetLog (a : Reply) (s : State) : (s.reply a).resetLog = s.resetLog := rfl
@[simp] theorem state_reply_replies (a : Reply) (s : State) : (s.reply a).replies = s.replies ++ [a] := rfl
@[simp] theorem state_reply_pending (a : Reply) (s : State) : (s.reply a).pending = s.pending := rfl
@[simp] theorem state_reply_script (a : Reply) (s : State) : (s.reply a).script = s.script := rfl
@[simp] theorem state_reply_draws (a : Reply) (s : State) : (s.reply a).draws = s.draws := rfl
@[simp] theorem state_reply_stalled (a : Reply) (s : State) : (s.reply a).stalled = s.stalled := rfl

@[simp] theorem state_returns_cfg (r : SessionResult) (s : State) : (s.returns r).cfg = s.cfg := rfl
@[simp] theorem state_returns_fb (r : SessionResult) (s : State) : (s.returns r).fb = s.fb := rfl
@[simp] theorem state_returns_live (r : SessionResult) (s : State) : (s.returns r).live = s.live := rfl
@[simp] theorem state_returns_fault (r : SessionResult) (s : State) : (s.returns r).fault = s.fault := rfl
@[simp] theorem state_returns_oversize (r : SessionResult) (s : State) : (s.returns r).oversize = s.oversize := rfl
@[simp] theorem state_returns_txLog (r : SessionResult) (s : State) : (s.returns r).txLog = s.txLog := rfl
@[simp] theorem state_returns_session (r : SessionResult) (s : State) : (s.returns r).session = s.session := rfl
@[simp] theorem state_returns_resetLog (r : SessionResult) (s : State) : (s.returns r).resetLog = s.resetLog := rfl
@[simp] theorem state_returns_replies (r : SessionResult) (s : State) : (s.returns r).replies = s.replies ++ [.session r] := rfl
@[simp] theorem state_returns_pending (r : SessionResult) (s : State) : (s.returns r).pending = s.pending := rfl
@[simp] theorem state_returns_script (r : SessionResult) (s : State) : (s.returns r).script = s.script := rfl
@[simp] theorem state_returns_draws (r : SessionResult) (s : State) : (s.returns r).draws = s.draws := rfl
@[simp] theorem state_returns_stalled (r : SessionResult) (s : State) : (s.returns r).stalled = s.stalled := rfl

@[simp] theorem state_shut_cfg (s : State) : (s.shut).cfg = s.cfg := rfl
@[simp] theorem state_shut_fb (s : State) : (s.shut).fb = s.fb := rfl
@[simp] theorem state_shut_live (s : State) : (s.shut).live = false := rfl
@[simp] theorem state_shut_fault (s : State) : (s.shut).fault = s.fault := rfl
@[simp] theorem state_shut_oversize (s : State) : (s.shut).oversize = s.oversize := rfl
@[simp] theorem state_shut_txLog (s : State) : (s.shut).txLog = s.txLog := rfl
@[simp] theorem state_shut_session (s : State) : (s.shut).session = .closed := rfl
@[simp] theorem state_shut_resetLog (s : State) : (s.shut).resetLog = s.resetLog := rfl
@[simp] theorem state_shut_replies (s : State) : (s.shut).replies = s.replies := rfl
@[simp] theorem state_shut_pending (s : State) : (s.shut).pending = s.pending := rfl
@[simp] theorem state_shut_script (s : State) : (s.shut).script = s.script := rfl
@[simp] theorem state_shut_draws (s : State) : (s.shut).draws = s.draws := rfl
@[simp] theorem state_shut_stalled (s : State) : (s.shut).stalled = s.stalled := rfl

@[simp] theorem state_take_cfg (n : Nat) (s : State) : (s.take n).cfg = s.cfg := rfl
@[simp] theorem state_take_fb (n : Nat) (s : State) : (s.take n).fb = s.fb := rfl
@[simp] theorem state_take_live (n : Nat) (s : State) : (s.take n).live = s.live := rfl
@[simp] theorem state_take_fault (n : Nat) (s : State) : (s.take n).fault = s.fault := rfl
@[simp] theorem state_take_oversize (n : Nat) (s : State) : (s.take n).oversize = s.oversize := rfl
@[simp] theorem state_take_txLog (n : Nat) (s : State) : (s.take n).txLog = s.txLog := rfl
@[simp] theorem state_take_session (n : Nat) (s : State) : (s.take n).session = s.session := rfl
@[simp] theorem state_take_resetLog (n : Nat) (s : State) : (s.take n).resetLog = s.resetLog := rfl
@[simp] theorem state_take_replies (n : Nat) (s : State) : (s.take n).replies = s.replies := rfl
@[simp] theorem state_take_pending (n : Nat) (s : State) : (s.take n).pending = s.pending.drop n := rfl
@[simp] theorem state_take_script (n : Nat) (s : State) : (s.take n).script = s.script := rfl
@[simp] theorem state_take_draws (n : Nat) (s : State) : (s.take n).draws = s.draws := rfl
@[simp] theorem state_take_stalled (n : Nat) (s : State) : (s.take n).stalled = s.stalled := rfl

@[simp] theorem state_withDescriptor_cfg (s : State) (nbits w : Nat) : (s.withDescriptor nbits w).cfg = s.cfg := rfl
@[simp] theorem state_withDescriptor_fb (s : State) (nbits w : Nat) : (s.withDescriptor nbits w).fb = s.fb := rfl
@[simp] theorem state_withDescriptor_live (s : State) (nbits w : Nat) : (s.withDescriptor nbits w).live = s.live := rfl
@[simp] theorem state_withDescriptor_fault (s : State) (nbits w : Nat) : (s.withDescriptor nbits w).fault = s.fault := rfl
@[simp] theorem state_withDescriptor_oversize (s : State) (nbits w : Nat) : (s.withDescriptor nbits w).oversize = s.oversize := rfl
@[simp] theorem state_withDescriptor_txLog (s : State) (nbits w : Nat) : (s.withDescriptor nbits w).txLog = s.txLog := rfl
@[simp] theorem state_withDescriptor_session (s : State) (nbits w : Nat) : (s.withDescriptor nbits w).session = s.session := rfl
@[simp] theorem state_withDescriptor_resetLog (s : State) (nbits w : Nat) : (s.withDescriptor nbits w).resetLog = s.resetLog := rfl
@[simp] theorem state_withDescriptor_replies (s : State) (nbits w : Nat) : (s.withDescriptor nbits w).replies = s.replies := rfl
@[simp] theorem state_withDescriptor_pending (s : State) (nbits w : Nat) : (s.withDescriptor nbits w).pending = sendWords s.cfg.descPort (tableWords nbits w) ++ s.pending := rfl
@[simp] theorem state_withDescriptor_script (s : State) (nbits w : Nat) : (s.withDescriptor nbits w).script = s.script := rfl
@[simp] theorem state_withDescriptor_draws (s : State) (nbits w : Nat) : (s.withDescriptor nbits w).draws = s.draws := rfl
@[simp] theorem state_withDescriptor_stalled (s : State) (nbits w : Nat) : (s.withDescriptor nbits w).stalled = s.stalled := rfl

@[simp] theorem state_paint_cfg (c : Colour) (pts : List (Int × Int)) (s : State) : (s.paint c pts).cfg = s.cfg := rfl
@[simp] theorem state_paint_fb (c : Colour) (pts : List (Int × Int)) (s : State) : (s.paint c pts).fb = paint s.cfg.w s.cfg.h c pts s.fb := rfl
@[simp] theorem state_paint_live (c : Colour) (pts : List (Int × Int)) (s : State) : (s.paint c pts).live = s.live := rfl
@[simp] theorem state_paint_fault (c : Colour) (pts : List (Int × Int)) (s : State) : (s.paint c pts).fault = s.fault := rfl
@[simp] theorem state_paint_oversize (c : Colour) (pts : List (Int × Int)) (s : State) : (s.paint c pts).oversize = s.oversize := rfl
@[simp] theorem state_paint_txLog (c : Colour) (pts : List (Int × Int)) (s : State) : (s.paint c pts).txLog = s.txLog := rfl
@[simp] theorem state_paint_session (c : Colour) (pts : List (Int × Int)) (s : State) : (s.paint c pts).session = s.session := rfl
@[simp] theorem state_paint_resetLog (c : Colour) (pts : List (Int × Int)) (s : State) : (s.paint c pts).resetLog = s.resetLog := rfl
@[simp] theorem state_paint_replies (c : Colour) (pts : List (Int × Int)) (s : State) : (s.paint c pts).replies = s.replies := rfl
@[simp] theorem state_paint_pending (c : Colour) (pts : List (Int × Int)) (s : State) : (s.paint c pts).pending = s.pending := rfl
@[simp] theorem state_paint_script (c : Colour) (pts : List (Int × Int)) (s : State) : (s.paint c pts).script = s.script := rfl
@[simp] theorem state_paint_draws (c : Colour) (pts : List (Int × Int)) (s : State) : (s.paint c pts).draws = s.draws := rfl
@[simp] theorem state_paint_stalled (c : Colour) (pts : List (Int × Int)) (s : State) : (s.paint c pts).stalled = s.stalled := rfl

@[simp] theorem state_advanceDraw_cfg (s : State) : (s.advanceDraw).cfg = s.cfg := rfl
@[simp] theorem state_advanceDraw_fb (s : State) : (s.advanceDraw).fb = s.fb := rfl
@[simp] theorem state_advanceDraw_live (s : State) : (s.advanceDraw).live = s.live := rfl
@[simp] theorem state_advanceDraw_fault (s : State) : (s.advanceDraw).fault = s.fault := rfl
@[simp] theorem state_advanceDraw_oversize (s : State) : (s.advanceDraw).oversize = s.oversize := rfl
@[simp] theorem state_advanceDraw_txLog (s : State) : (s.advanceDraw).txLog = s.txLog := rfl
@[simp] theorem state_advanceDraw_session (s : State) : (s.advanceDraw).session = s.session := rfl
@[simp] theorem state_advanceDraw_resetLog (s : State) : (s.advanceDraw).resetLog = s.resetLog := rfl
@[simp] theorem state_advanceDraw_replies (s : State) : (s.advanceDraw).replies = s.replies := rfl
@[simp] theorem state_advanceDraw_pending (s : State) : (s.advanceDraw).pending = s.pending := rfl
@[simp] theorem state_advanceDraw_script (s : State) : (s.advanceDraw).script = s.script.tail := rfl
@[simp] theorem state_advanceDraw_draws (s : State) : (s.advanceDraw).draws = if s.script.isEmpty then s.draws + 1 else s.draws := rfl
@[simp] theorem state_advanceDraw_stalled (s : State) : (s.advanceDraw).stalled = s.stalled := rfl

@[simp] theorem state_noteLength_cfg (n : Nat) (s : State) : (s.noteLength n).cfg = s.cfg := rfl
@[simp] theorem state_noteLength_fb (n : Nat) (s : State) : (s.noteLength n).fb = s.fb := rfl
@[simp] theorem state_noteLength_live (n : Nat) (s : State) : (s.noteLength n).live = s.live := rfl
@[simp] theorem state_noteLength_fault (n : Nat) (s : State) : (s.noteLength n).fault = s.fault := rfl
@[simp] theorem state_noteLength_oversize (n : Nat) (s : State) : (s.noteLength n).oversize = (s.oversize || decide (n > s.cfg.maxXfer)) := rfl
@[simp] theorem state_noteLength_txLog (n : Nat) (s : State) : (s.noteLength n).txLog = s.txLog := rfl
@[simp] theorem state_noteLength_session (n : Nat) (s : State) : (s.noteLength n).session = s.session := rfl
@[simp] theorem state_noteLength_resetLog (n : Nat) (s : State) : (s.noteLength n).resetLog = s.resetLog := rfl
@[simp] theorem state_noteLength_replies (n : Nat) (s : State) : (s.noteLength n).replies = s.replies := rfl
@[simp] theorem state_noteLength_pending (n : Nat) (s : State) : (s.noteLength n).pending = s.pending := rfl
@[simp] theorem state_noteLength_script (n : Nat) (s : State) : (s.noteLength n).script = s.script := rfl
@[simp] theorem state_noteLength_draws (n : Nat) (s : State) : (s.noteLength n).draws = s.draws := rfl
@[simp] theorem state_noteLength_stalled (n : Nat) (s : State) : (s.noteLength n).stalled = s.stalled := rfl

@[simp] theorem state_answer_none (s : State) : s.answer none = s := rfl
@[simp] theorem state_answer_some (r : Result) (s : State) : s.answer (some r) = s.reply (.op r) := rfl

@[simp] theorem state_answer_cfg (r : Option Result) (s : State) : (s.answer r).cfg = s.cfg := by cases r <;> rfl
@[simp] theorem state_answer_fb (r : Option Result) (s : State) : (s.answer r).fb = s.fb := by cases r <;> rfl
@[simp] theorem state_answer_live (r : Option Result) (s : State) : (s.answer r).live = s.live := by cases r <;> rfl
@[simp] theorem state_answer_fault (r : Option Result) (s : State) : (s.answer r).fault = s.fault := by cases r <;> rfl
@[simp] theorem state_answer_oversize (r : Option Result) (s : State) : (s.answer r).oversize = s.oversize := by cases r <;> rfl
@[simp] theorem state_answer_txLog (r : Option Result) (s : State) : (s.answer r).txLog = s.txLog := by cases r <;> rfl
@[simp] theorem state_answer_session (r : Option Result) (s : State) : (s.answer r).session = s.session := by cases r <;> rfl
@[simp] theorem state_answer_resetLog (r : Option Result) (s : State) : (s.answer r).resetLog = s.resetLog := by cases r <;> rfl
@[simp] theorem state_answer_pending (r : Option Result) (s : State) : (s.answer r).pending = s.pending := by cases r <;> rfl
@[simp] theorem state_answer_script (r : Option Result) (s : State) : (s.answer r).script = s.script := by cases r <;> rfl
@[simp] theorem state_answer_draws (r : Option Result) (s : State) : (s.answer r).draws = s.draws := by cases r <;> rfl
@[simp] theorem state_answer_stalled (r : Option Result) (s : State) : (s.answer r).stalled = s.stalled := by cases r <;> rfl

/-- Two states with equal fields are equal. -/
theorem state_ext {s t : State} (h : s.cfg = t.cfg ∧ s.fb = t.fb ∧ s.live = t.live ∧ s.fault = t.fault ∧
    s.oversize = t.oversize ∧ s.txLog = t.txLog ∧ s.session = t.session ∧ s.resetLog = t.resetLog ∧ s.replies = t.replies ∧
    s.pending = t.pending ∧ s.script = t.script ∧ s.draws = t.draws ∧ s.stalled = t.stalled) : s = t := by
  cases s; cases t; simp_all

end Sys2Proof.Machine
end

