-- ==== Sys2Proof/Laws/Ops.lean ====
section
/-! SUPPORT. What each shared operation can do, said once: issuing an operation, a collaborator's call, a frame, the frames of
one operation, and what of the state the framer never touches (42_framer.md R221). -/

namespace Sys2Proof.Machine

/-- A living block runs the operation and returns its result (R37, R250). -/
theorem issue_live {s : State} (h : s.live = true) (body : State → Option Result × State) :
    issue body s = ((body s).1, (body s).2.answer (body s).1) := by simp [issue, h]

/-- A block that does not exist sets FAULT and does nothing else (R39, R41). -/
theorem issue_dead {s : State} (h : s.live = false) (body : State → Option Result × State) :
    issue body s = (none, s.markFault) := by simp [issue, h]

theorem runOp_live {s : State} (h : s.live = true) (body : State → Option Result × State) :
    runOp body s = .next ((body s).2.answer (body s).1) := by simp [runOp, issue_live h]

theorem runOp_dead {s : State} (h : s.live = false) (body : State → Option Result × State) :
    runOp body s = .next s.markFault := by simp [runOp, issue_dead h]

/-- A transport write that returns is logged with its outcome (R271). -/
theorem txWrite_returns {s : State} {o : IoOutcome} (h : s.nextDraw = .returns o) (p : Byte) (payload : List Byte) :
    txWrite p payload s = (some o, { s.advanceDraw with txLog := s.txLog ++ [⟨s.cfg.busAddr, p, payload, o⟩] }) := by simp [txWrite, h]

/-- A transport write that never returns stalls the block (R312). -/
theorem txWrite_never {s : State} (h : s.nextDraw = .never) (p : Byte) (payload : List Byte) :
    txWrite p payload s = (none, s.advanceDraw.stall) := by simp [txWrite, h]

theorem resetControl_returns {s : State} {o : IoOutcome} (h : s.nextDraw = .returns o) (c : ResetCall) :
    resetControl c s = (some o, { s.advanceDraw with resetLog := s.resetLog ++ [.called c o] }) := by simp [resetControl, h]

theorem resetControl_never {s : State} (h : s.nextDraw = .never) (c : ResetCall) :
    resetControl c s = (none, s.advanceDraw.stall) := by simp [resetControl, h]

theorem acquire_returns {s : State} {o : IoOutcome} (h : s.nextDraw = .returns o) :
    acquire s = (some o, s.advanceDraw) := by simp [acquire, h]

theorem acquire_never {s : State} (h : s.nextDraw = .never) : acquire s = (none, s.advanceDraw.stall) := by
  simp [acquire, h]

/-- An outcome the collaborators have ready comes before the free values. -/
theorem nextDraw_cons {s : State} {d : Draw} {r : List Draw} (h : s.script = d :: r) : s.nextDraw = d := by
  simp [State.nextDraw, h]

/-- Marking OVERSIZE changes no draw. -/
@[simp] theorem nextDraw_noteLength (n : Nat) (s : State) : (s.noteLength n).nextDraw = s.nextDraw := by
  simp [State.nextDraw]

@[simp] theorem txWrite_cfg (p : Byte) (payload : List Byte) (s : State) : (txWrite p payload s).2.cfg = s.cfg := by
  unfold txWrite; split <;> simp
@[simp] theorem txWrite_fb (p : Byte) (payload : List Byte) (s : State) : (txWrite p payload s).2.fb = s.fb := by
  unfold txWrite; split <;> simp
@[simp] theorem txWrite_live (p : Byte) (payload : List Byte) (s : State) : (txWrite p payload s).2.live = s.live := by
  unfold txWrite; split <;> simp
@[simp] theorem txWrite_fault (p : Byte) (payload : List Byte) (s : State) : (txWrite p payload s).2.fault = s.fault := by
  unfold txWrite; split <;> simp
@[simp] theorem txWrite_session (p : Byte) (payload : List Byte) (s : State) : (txWrite p payload s).2.session = s.session := by
  unfold txWrite; split <;> simp
@[simp] theorem txWrite_resetLog (p : Byte) (payload : List Byte) (s : State) : (txWrite p payload s).2.resetLog = s.resetLog := by
  unfold txWrite; split <;> simp
@[simp] theorem txWrite_replies (p : Byte) (payload : List Byte) (s : State) : (txWrite p payload s).2.replies = s.replies := by
  unfold txWrite; split <;> simp
@[simp] theorem txWrite_pending (p : Byte) (payload : List Byte) (s : State) : (txWrite p payload s).2.pending = s.pending := by
  unfold txWrite; split <;> simp
@[simp] theorem txWrite_oversize (p : Byte) (payload : List Byte) (s : State) : (txWrite p payload s).2.oversize = s.oversize := by
  unfold txWrite; split <;> simp

@[simp] theorem resetControl_cfg (c : ResetCall) (s : State) : (resetControl c s).2.cfg = s.cfg := by
  unfold resetControl; split <;> simp
@[simp] theorem resetControl_fb (c : ResetCall) (s : State) : (resetControl c s).2.fb = s.fb := by
  unfold resetControl; split <;> simp
@[simp] theorem resetControl_live (c : ResetCall) (s : State) : (resetControl c s).2.live = s.live := by
  unfold resetControl; split <;> simp
@[simp] theorem resetControl_fault (c : ResetCall) (s : State) : (resetControl c s).2.fault = s.fault := by
  unfold resetControl; split <;> simp
@[simp] theorem resetControl_session (c : ResetCall) (s : State) : (resetControl c s).2.session = s.session := by
  unfold resetControl; split <;> simp
@[simp] theorem resetControl_replies (c : ResetCall) (s : State) : (resetControl c s).2.replies = s.replies := by
  unfold resetControl; split <;> simp
@[simp] theorem resetControl_pending (c : ResetCall) (s : State) : (resetControl c s).2.pending = s.pending := by
  unfold resetControl; split <;> simp
@[simp] theorem resetControl_oversize (c : ResetCall) (s : State) : (resetControl c s).2.oversize = s.oversize := by
  unfold resetControl; split <;> simp
@[simp] theorem resetControl_txLog (c : ResetCall) (s : State) : (resetControl c s).2.txLog = s.txLog := by
  unfold resetControl; split <;> simp

/-- Where the host sets the direction here, it is one reset-control call (R273). -/
theorem setDirection_due (s : State) : setDirection true s = resetControl .setDirectionOut s := rfl

/-- Where the host does not, nothing is called and nothing changes. -/
theorem setDirection_skipped (s : State) : setDirection false s = (some .ok, s) := rfl

@[simp] theorem setDirection_cfg (due : Bool) (s : State) : (setDirection due s).2.cfg = s.cfg := by
  cases due <;> simp [setDirection]
@[simp] theorem setDirection_fb (due : Bool) (s : State) : (setDirection due s).2.fb = s.fb := by
  cases due <;> simp [setDirection]
@[simp] theorem setDirection_live (due : Bool) (s : State) : (setDirection due s).2.live = s.live := by
  cases due <;> simp [setDirection]
@[simp] theorem setDirection_fault (due : Bool) (s : State) : (setDirection due s).2.fault = s.fault := by
  cases due <;> simp [setDirection]
@[simp] theorem setDirection_session (due : Bool) (s : State) : (setDirection due s).2.session = s.session := by
  cases due <;> simp [setDirection]
@[simp] theorem setDirection_replies (due : Bool) (s : State) : (setDirection due s).2.replies = s.replies := by
  cases due <;> simp [setDirection]
@[simp] theorem setDirection_pending (due : Bool) (s : State) : (setDirection due s).2.pending = s.pending := by
  cases due <;> simp [setDirection]
@[simp] theorem setDirection_oversize (due : Bool) (s : State) : (setDirection due s).2.oversize = s.oversize := by
  cases due <;> simp [setDirection]
@[simp] theorem setDirection_txLog (due : Bool) (s : State) : (setDirection due s).2.txLog = s.txLog := by
  cases due <;> simp [setDirection]

@[simp] theorem acquire_cfg (s : State) : (acquire s).2.cfg = s.cfg := by
  unfold acquire; split <;> simp
@[simp] theorem acquire_fb (s : State) : (acquire s).2.fb = s.fb := by
  unfold acquire; split <;> simp
@[simp] theorem acquire_live (s : State) : (acquire s).2.live = s.live := by
  unfold acquire; split <;> simp
@[simp] theorem acquire_fault (s : State) : (acquire s).2.fault = s.fault := by
  unfold acquire; split <;> simp
@[simp] theorem acquire_session (s : State) : (acquire s).2.session = s.session := by
  unfold acquire; split <;> simp
@[simp] theorem acquire_resetLog (s : State) : (acquire s).2.resetLog = s.resetLog := by
  unfold acquire; split <;> simp
@[simp] theorem acquire_replies (s : State) : (acquire s).2.replies = s.replies := by
  unfold acquire; split <;> simp
@[simp] theorem acquire_pending (s : State) : (acquire s).2.pending = s.pending := by
  unfold acquire; split <;> simp
@[simp] theorem acquire_oversize (s : State) : (acquire s).2.oversize = s.oversize := by
  unfold acquire; split <;> simp
@[simp] theorem acquire_txLog (s : State) : (acquire s).2.txLog = s.txLog := by
  unfold acquire; split <;> simp

@[simp] theorem sendFrame_cfg (kind : FrameKind) (payload : List Byte) (s : State) :
    (sendFrame kind payload s).2.cfg = s.cfg := by simp [sendFrame]
@[simp] theorem sendFrame_fb (kind : FrameKind) (payload : List Byte) (s : State) :
    (sendFrame kind payload s).2.fb = s.fb := by simp [sendFrame]
@[simp] theorem sendFrame_live (kind : FrameKind) (payload : List Byte) (s : State) :
    (sendFrame kind payload s).2.live = s.live := by simp [sendFrame]
@[simp] theorem sendFrame_fault (kind : FrameKind) (payload : List Byte) (s : State) :
    (sendFrame kind payload s).2.fault = s.fault := by simp [sendFrame]
@[simp] theorem sendFrame_session (kind : FrameKind) (payload : List Byte) (s : State) :
    (sendFrame kind payload s).2.session = s.session := by simp [sendFrame]
@[simp] theorem sendFrame_resetLog (kind : FrameKind) (payload : List Byte) (s : State) :
    (sendFrame kind payload s).2.resetLog = s.resetLog := by simp [sendFrame]
@[simp] theorem sendFrame_replies (kind : FrameKind) (payload : List Byte) (s : State) :
    (sendFrame kind payload s).2.replies = s.replies := by simp [sendFrame]
@[simp] theorem sendFrame_pending (kind : FrameKind) (payload : List Byte) (s : State) :
    (sendFrame kind payload s).2.pending = s.pending := by simp [sendFrame]

/-- What one frame leaves in TXLOG: nothing where the write never returned, else the one entry with the prefix of its kind
and length (R212, R271). -/
theorem sendFrame_txLog (kind : FrameKind) (payload : List Byte) (s : State) :
    (sendFrame kind payload s).2.txLog =
      match (sendFrame kind payload s).1 with
      | none => s.txLog
      | some o => s.txLog ++ [frameEntry s.cfg kind o payload] := by
  unfold sendFrame txWrite
  cases h : (s.noteLength payload.length).nextDraw <;> simp [frameEntry]

/-- A frame sets OVERSIZE exactly where it is longer than `MAX_XFER` (R218). -/
theorem sendFrame_oversize (kind : FrameKind) (payload : List Byte) (s : State) :
    (sendFrame kind payload s).2.oversize = (s.oversize || decide (payload.length > s.cfg.maxXfer)) := by
  simp [sendFrame, state_noteLength_oversize]

/-- One case analysis of the frames of an operation: what holds of the start and is kept by each frame holds at the end. -/
theorem sendAll_keeps {P : State → Prop} (kind : FrameKind) (frames : List (List Byte))
    (keep : ∀ p ∈ frames, ∀ s, P s → P (sendFrame kind p s).2) (k : Nat) (s : State) (h : P s) :
    P (sendAll kind k frames s).2 := by
  induction frames generalizing k s with
  | nil => exact h
  | cons p rest ih =>
    have hp := keep p (by simp) s h
    have hr := ih (fun q hq => keep q (by simp [hq]))
    unfold sendAll
    split
    · exact hp
    · exact hp
    · exact hr (k + 1) _ hp

@[simp] theorem sendAll_cfg (kind : FrameKind) (k : Nat) (frames : List (List Byte)) (s : State) :
    (sendAll kind k frames s).2.cfg = s.cfg :=
  sendAll_keeps (P := fun t => t.cfg = s.cfg) kind frames (fun p _ t ht => by simp [ht]) k s rfl
@[simp] theorem sendAll_fb (kind : FrameKind) (k : Nat) (frames : List (List Byte)) (s : State) :
    (sendAll kind k frames s).2.fb = s.fb :=
  sendAll_keeps (P := fun t => t.fb = s.fb) kind frames (fun p _ t ht => by simp [ht]) k s rfl
@[simp] theorem sendAll_live (kind : FrameKind) (k : Nat) (frames : List (List Byte)) (s : State) :
    (sendAll kind k frames s).2.live = s.live :=
  sendAll_keeps (P := fun t => t.live = s.live) kind frames (fun p _ t ht => by simp [ht]) k s rfl
@[simp] theorem sendAll_fault (kind : FrameKind) (k : Nat) (frames : List (List Byte)) (s : State) :
    (sendAll kind k frames s).2.fault = s.fault :=
  sendAll_keeps (P := fun t => t.fault = s.fault) kind frames (fun p _ t ht => by simp [ht]) k s rfl
@[simp] theorem sendAll_session (kind : FrameKind) (k : Nat) (frames : List (List Byte)) (s : State) :
    (sendAll kind k frames s).2.session = s.session :=
  sendAll_keeps (P := fun t => t.session = s.session) kind frames (fun p _ t ht => by simp [ht]) k s rfl
@[simp] theorem sendAll_resetLog (kind : FrameKind) (k : Nat) (frames : List (List Byte)) (s : State) :
    (sendAll kind k frames s).2.resetLog = s.resetLog :=
  sendAll_keeps (P := fun t => t.resetLog = s.resetLog) kind frames (fun p _ t ht => by simp [ht]) k s rfl
@[simp] theorem sendAll_replies (kind : FrameKind) (k : Nat) (frames : List (List Byte)) (s : State) :
    (sendAll kind k frames s).2.replies = s.replies :=
  sendAll_keeps (P := fun t => t.replies = s.replies) kind frames (fun p _ t ht => by simp [ht]) k s rfl
@[simp] theorem sendAll_pending (kind : FrameKind) (k : Nat) (frames : List (List Byte)) (s : State) :
    (sendAll kind k frames s).2.pending = s.pending :=
  sendAll_keeps (P := fun t => t.pending = s.pending) kind frames (fun p _ t ht => by simp [ht]) k s rfl

/-- The interface check: NO_INTERFACE with the state as it was, or the operation (R219). -/
theorem withInterface_none {s : State} (h : s.cfg.iface = .none) (body : State → Option Result × State) :
    withInterface body s = (some .noInterface, s) := by simp [withInterface, h]

theorem withInterface_bus {s : State} (h : s.cfg.iface = .bus) (body : State → Option Result × State) :
    withInterface body s = body s := by simp [withInterface, h]

@[simp] theorem withInterface_sendAll_cfg (kind : FrameKind) (k : Nat) (frames : List (List Byte)) (s : State) :
    (withInterface (sendAll kind k frames) s).2.cfg = s.cfg := by
  unfold withInterface; split <;> simp
@[simp] theorem withInterface_sendAll_fb (kind : FrameKind) (k : Nat) (frames : List (List Byte)) (s : State) :
    (withInterface (sendAll kind k frames) s).2.fb = s.fb := by
  unfold withInterface; split <;> simp
@[simp] theorem withInterface_sendAll_live (kind : FrameKind) (k : Nat) (frames : List (List Byte)) (s : State) :
    (withInterface (sendAll kind k frames) s).2.live = s.live := by
  unfold withInterface; split <;> simp
@[simp] theorem withInterface_sendAll_fault (kind : FrameKind) (k : Nat) (frames : List (List Byte)) (s : State) :
    (withInterface (sendAll kind k frames) s).2.fault = s.fault := by
  unfold withInterface; split <;> simp
@[simp] theorem withInterface_sendAll_session (kind : FrameKind) (k : Nat) (frames : List (List Byte)) (s : State) :
    (withInterface (sendAll kind k frames) s).2.session = s.session := by
  unfold withInterface; split <;> simp
@[simp] theorem withInterface_sendAll_resetLog (kind : FrameKind) (k : Nat) (frames : List (List Byte)) (s : State) :
    (withInterface (sendAll kind k frames) s).2.resetLog = s.resetLog := by
  unfold withInterface; split <;> simp
@[simp] theorem withInterface_sendAll_replies (kind : FrameKind) (k : Nat) (frames : List (List Byte)) (s : State) :
    (withInterface (sendAll kind k frames) s).2.replies = s.replies := by
  unfold withInterface; split <;> simp
@[simp] theorem withInterface_sendAll_pending (kind : FrameKind) (k : Nat) (frames : List (List Byte)) (s : State) :
    (withInterface (sendAll kind k frames) s).2.pending = s.pending := by
  unfold withInterface; split <;> simp

end Sys2Proof.Machine
end

