-- ==== Sys2Proof/Laws/Draws.lean ====
section
/-! SUPPORT. Successive collaborator calls: the draws they use up, and what a frame and the frames of one operation do by
their draws (42_framer.md R212, R220). -/

namespace Sys2Proof.Machine

theorem afterDraws_zero (s : State) : s.afterDraws 0 = s := rfl

theorem afterDraws_succ (k : Nat) (s : State) : s.afterDraws (k + 1) = s.advanceDraw.afterDraws k := rfl

theorem drawAt_zero (s : State) : s.drawAt 0 = s.nextDraw := rfl

theorem drawAt_succ (k : Nat) (s : State) : s.drawAt (k + 1) = s.advanceDraw.drawAt k := rfl

/-- The first of several `ok` calls, and the others. -/
theorem okBefore_succ {k : Nat} {s : State} (h : s.okBefore (k + 1)) :
    s.nextDraw = .returns .ok ∧ s.advanceDraw.okBefore k :=
  ⟨h 0 (by omega), fun j hj => h (j + 1) (by omega)⟩

/-- Where the collaborators have `k` outcomes `ok` ready, the next `k` calls return `ok`. -/
theorem okBefore_of_script {k : Nat} {s : State} {r : List Draw} (h : s.script = List.replicate k (.returns .ok) ++ r) :
    s.okBefore k := by
  induction k generalizing s with
  | zero => intro j hj; omega
  | succ k ih =>
    intro j hj
    cases j with
    | zero =>
      have e : s.script = .returns .ok :: (List.replicate k (.returns .ok) ++ r) := by
        rw [h, List.replicate_succ, List.cons_append]
      simp [drawAt_zero, nextDraw_cons e]
    | succ j => exact ih (s := s.advanceDraw) (by simp [h, List.replicate_succ]) j (by omega)

/-- A draw depends on the ready outcomes and the counter alone. -/
theorem nextDraw_congr {s t : State} (h1 : s.script = t.script) (h2 : s.draws = t.draws) : s.nextDraw = t.nextDraw := by
  simp [State.nextDraw, h1, h2]

theorem afterDraws_script_draws {s t : State} (k : Nat) (h1 : s.script = t.script) (h2 : s.draws = t.draws) :
    (s.afterDraws k).script = (t.afterDraws k).script ∧ (s.afterDraws k).draws = (t.afterDraws k).draws := by
  induction k generalizing s t with
  | zero => exact ⟨h1, h2⟩
  | succ k ih => exact ih (s := s.advanceDraw) (t := t.advanceDraw) (by simp [h1]) (by simp [h1, h2])

theorem drawAt_congr {s t : State} (k : Nat) (h1 : s.script = t.script) (h2 : s.draws = t.draws) :
    s.drawAt k = t.drawAt k :=
  nextDraw_congr (afterDraws_script_draws k h1 h2).1 (afterDraws_script_draws k h1 h2).2

theorem okBefore_congr {s t : State} {k : Nat} (h1 : s.script = t.script) (h2 : s.draws = t.draws) (h : s.okBefore k) :
    t.okBefore k := fun j hj => by rw [← drawAt_congr j h1 h2]; exact h j hj

theorem afterDraws_add (j k : Nat) (s : State) : (s.afterDraws j).afterDraws k = s.afterDraws (j + k) := by
  rw [State.afterDraws, State.afterDraws, State.afterDraws, ← Function.iterate_add_apply, Nat.add_comm]

theorem okBefore_mono {s : State} {j k : Nat} (h : s.okBefore k) (hj : j ≤ k) : s.okBefore j := fun i hi => h i (by omega)

/-- A state that has used up `k` draws of `s`, whatever else it changed, draws next what `s` draws at `k`. -/
theorem nextDraw_of_drawAt {s t : State} {k : Nat} {d : Draw} (h : s.drawAt k = d) (h1 : t.script = (s.afterDraws k).script)
    (h2 : t.draws = (s.afterDraws k).draws) : t.nextDraw = d := by
  rw [← h]; exact nextDraw_congr h1 h2

/-- Such a state has used up `k + 1` draws of `s` after its next call. -/
theorem advanceDraw_of_afterDraws {s t : State} {k : Nat} (h1 : t.script = (s.afterDraws k).script)
    (h2 : t.draws = (s.afterDraws k).draws) :
    t.advanceDraw.script = (s.afterDraws (k + 1)).script ∧ t.advanceDraw.draws = (s.afterDraws (k + 1)).draws := by
  rw [← afterDraws_add]; exact afterDraws_script_draws 1 h1 h2

/-- Using up draws changes the ready outcomes and the counter alone. -/
theorem afterDraws_eq (k : Nat) (s : State) :
    s.afterDraws k = { s with script := (s.afterDraws k).script, draws := (s.afterDraws k).draws } := by
  induction k generalizing s with
  | zero => rfl
  | succ k ih => rw [afterDraws_succ, ih]; rfl

@[simp] theorem afterDraws_cfg (k : Nat) (s : State) : (s.afterDraws k).cfg = s.cfg := by rw [afterDraws_eq]
@[simp] theorem afterDraws_fb (k : Nat) (s : State) : (s.afterDraws k).fb = s.fb := by rw [afterDraws_eq]
@[simp] theorem afterDraws_live (k : Nat) (s : State) : (s.afterDraws k).live = s.live := by rw [afterDraws_eq]
@[simp] theorem afterDraws_fault (k : Nat) (s : State) : (s.afterDraws k).fault = s.fault := by rw [afterDraws_eq]
@[simp] theorem afterDraws_oversize (k : Nat) (s : State) : (s.afterDraws k).oversize = s.oversize := by rw [afterDraws_eq]
@[simp] theorem afterDraws_txLog (k : Nat) (s : State) : (s.afterDraws k).txLog = s.txLog := by rw [afterDraws_eq]
@[simp] theorem afterDraws_session (k : Nat) (s : State) : (s.afterDraws k).session = s.session := by rw [afterDraws_eq]
@[simp] theorem afterDraws_resetLog (k : Nat) (s : State) : (s.afterDraws k).resetLog = s.resetLog := by rw [afterDraws_eq]
@[simp] theorem afterDraws_replies (k : Nat) (s : State) : (s.afterDraws k).replies = s.replies := by rw [afterDraws_eq]
@[simp] theorem afterDraws_pending (k : Nat) (s : State) : (s.afterDraws k).pending = s.pending := by rw [afterDraws_eq]
@[simp] theorem afterDraws_stalled (k : Nat) (s : State) : (s.afterDraws k).stalled = s.stalled := by rw [afterDraws_eq]

/-- Setting the direction where all goes well, in a state that has used up `j` draws of `s`: one call where the host makes it
here, none where it does not (R273). -/
theorem setDirection_ok {due : Bool} {s t : State} {j : Nat} (h1 : t.script = (s.afterDraws j).script)
    (h2 : t.draws = (s.afterDraws j).draws) (h : s.okBefore (j + due.toNat)) :
    setDirection due t = (some .ok, { t with
      resetLog := t.resetLog ++ directionCalls due
      script := (s.afterDraws (j + due.toNat)).script
      draws := (s.afterDraws (j + due.toNat)).draws }) := by
  cases due with
  | false => simp [setDirection_skipped, directionCalls, ← h1, ← h2]
  | true =>
    rw [setDirection_due, resetControl_returns (nextDraw_of_drawAt (h j (by simp)) h1 h2)]
    refine congrArg _ (state_ext ?_)
    simp [directionCalls, -state_advanceDraw_script, -state_advanceDraw_draws]
    exact advanceDraw_of_afterDraws h1 h2

/-- Setting the direction fails. -/
theorem setDirection_err {s : State} {e : IoError} (h : s.drawAt 0 = .returns (.err e)) :
    setDirection true s = (some (.err e), { s.afterDraws 1 with resetLog := s.resetLog ++ [.called .setDirectionOut (.err e)] }) := by
  rw [setDirection_due, resetControl_returns (s := s) h]
  rfl

/-- One frame whose write returns (R212). -/
theorem sendFrame_returns {s : State} {o : IoOutcome} (h : s.nextDraw = .returns o) (kind : FrameKind) (p : List Byte) :
    sendFrame kind p s = (some o, { s.advanceDraw with
      txLog := s.txLog ++ [frameEntry s.cfg kind o p]
      oversize := s.oversize || decide (p.length > s.cfg.maxXfer) }) := by
  unfold sendFrame
  rw [txWrite_returns (by rw [nextDraw_noteLength]; exact h)]
  rfl

/-- One frame whose write never returns (R312). -/
theorem sendFrame_never {s : State} (h : s.nextDraw = .never) (kind : FrameKind) (p : List Byte) :
    sendFrame kind p s = (none, { s.advanceDraw with
      oversize := s.oversize || decide (p.length > s.cfg.maxXfer)
      stalled := true }) := by
  unfold sendFrame
  rw [txWrite_never (by rw [nextDraw_noteLength]; exact h)]
  rfl

/-- All frames of an operation go through (R216). -/
theorem sendAll_ok (kind : FrameKind) (frames : List (List Byte)) (n : Nat) (s : State) (h : s.okBefore frames.length) :
    sendAll kind n frames s = (some (.ok .unit), { s.afterDraws frames.length with
      txLog := s.txLog ++ frames.map (frameEntry s.cfg kind .ok)
      oversize := s.oversize || anyOversize s.cfg frames }) := by
  induction frames generalizing n s with
  | nil => simp [sendAll, anyOversize, afterDraws_zero]
  | cons p r ih =>
    obtain ⟨h0, h1⟩ := okBefore_succ h
    unfold sendAll
    rw [sendFrame_returns h0]
    dsimp only
    rw [ih]
    · refine Prod.ext rfl (state_ext ?_)
      simp [afterDraws_succ, anyOversize, Bool.or_assoc]
      exact afterDraws_script_draws r.length (by simp) (by simp)
    · exact okBefore_congr (s := s.advanceDraw) rfl rfl h1

/-- Frame `k` is the first whose write fails: it is reported, and no later frame is sent (R220). -/
theorem sendAll_err (kind : FrameKind) (frames : List (List Byte)) (n : Nat) (s : State) (k : Nat) (e : IoError)
    (hk : k < frames.length) (h : s.okBefore k) (he : s.drawAt k = .returns (.err e)) :
    sendAll kind n frames s = (some (.transportError (n + k) e), { s.afterDraws (k + 1) with
      txLog := s.txLog ++ (frames.take k).map (frameEntry s.cfg kind .ok) ++ [frameEntry s.cfg kind (.err e) (frames.getD k [])]
      oversize := s.oversize || anyOversize s.cfg (frames.take (k + 1)) }) := by
  induction frames generalizing n s k with
  | nil => simp at hk
  | cons p r ih =>
    cases k with
    | zero =>
      rw [drawAt_zero] at he
      unfold sendAll
      rw [sendFrame_returns he]
      simp [afterDraws_succ, afterDraws_zero, anyOversize]
    | succ k =>
      obtain ⟨h0, h1⟩ := okBefore_succ h
      unfold sendAll
      rw [sendFrame_returns h0]
      dsimp only
      rw [ih (k := k) (hk := by simpa using hk)]
      · refine Prod.ext (by simp; omega) (state_ext ?_)
        simp [afterDraws_succ, anyOversize, Bool.or_assoc]
        exact afterDraws_script_draws k (by simp) (by simp)
      · exact okBefore_congr (s := s.advanceDraw) rfl rfl h1
      · rw [← he, drawAt_succ]; exact drawAt_congr k rfl rfl

/-- Frame `k` is the first whose write never returns (R312). -/
theorem sendAll_never (kind : FrameKind) (frames : List (List Byte)) (n : Nat) (s : State) (k : Nat)
    (hk : k < frames.length) (h : s.okBefore k) (he : s.drawAt k = .never) :
    sendAll kind n frames s = (none, { s.afterDraws (k + 1) with
      txLog := s.txLog ++ (frames.take k).map (frameEntry s.cfg kind .ok)
      oversize := s.oversize || anyOversize s.cfg (frames.take (k + 1))
      stalled := true }) := by
  induction frames generalizing n s k with
  | nil => simp at hk
  | cons p r ih =>
    cases k with
    | zero =>
      rw [drawAt_zero] at he
      unfold sendAll
      rw [sendFrame_never he]
      simp [afterDraws_succ, afterDraws_zero, anyOversize]
    | succ k =>
      obtain ⟨h0, h1⟩ := okBefore_succ h
      unfold sendAll
      rw [sendFrame_returns h0]
      dsimp only
      rw [ih (k := k) (hk := by simpa using hk)]
      · refine Prod.ext rfl (state_ext ?_)
        simp [afterDraws_succ, anyOversize, Bool.or_assoc]
        exact afterDraws_script_draws k (by simp) (by simp)
      · exact okBefore_congr (s := s.advanceDraw) rfl rfl h1
      · rw [← he, drawAt_succ]; exact drawAt_congr k rfl rfl

end Sys2Proof.Machine
end

