-- ==== Sys2Proof/Laws/PerInstr.lean ====
section
/-! SUPPORT. Laws of every instruction as syntax, one lemma per constructor: a descriptor has the "total words" of the opcode
map (30_encoding.md R94, R95). -/

namespace Sys2Proof.Laws

/-- Payload words: two bytes a word, the last padded (R93). -/
theorem packBytes_length (s : List Byte) : (packBytes s).length = (s.length + 1) / 2 := by
  induction s using packBytes.induct with
  | case1 => rfl
  | case2 b => simp [packBytes]
  | case3 a b bs ih => simp only [packBytes, List.length_cons, ih]; omega

theorem payloadOperands_length (s : List Byte) : (payloadOperands s).length + 1 = payloadDescriptorWords s.length := by
  simp only [payloadOperands, List.length_cons, packBytes_length, payloadDescriptorWords]; omega

/-- The "total words" column of R94 for an instruction. -/
def totalWordsOf : Instr → Nat
  | .clear _ => 1
  | .point _ _ _ => 3
  | .query _ _ => 3
  | .snapshot => 1
  | .line _ _ _ _ _ => 5
  | .circle _ _ _ _ => 4
  | .rect _ _ _ _ _ => 5
  | .glyph _ _ _ _ => 4
  | .sendCmd s => payloadDescriptorWords s.length
  | .sendData s => payloadDescriptorWords s.length
  | .sendChunked s => payloadDescriptorWords s.length
  | .flush => 1

/-- The descriptor has as many words as the opcode map says. -/
def WordCount.Statement (i : Instr) : Prop := (encode i).length = totalWordsOf i

theorem WordCount.clear (c : Colour) : WordCount.Statement (.clear c) := rfl

theorem WordCount.point (c : Colour) (x y : Word16) : WordCount.Statement (.point c x y) := rfl

theorem WordCount.query (x y : Word16) : WordCount.Statement (.query x y) := rfl

theorem WordCount.snapshot : WordCount.Statement .snapshot := rfl

theorem WordCount.line (c : Colour) (x0 y0 x1 y1 : Word16) : WordCount.Statement (.line c x0 y0 x1 y1) := rfl

theorem WordCount.circle (c : Colour) (x0 y0 r : Word16) : WordCount.Statement (.circle c x0 y0 r) := rfl

theorem WordCount.rect (c : Colour) (x0 y0 x1 y1 : Word16) : WordCount.Statement (.rect c x0 y0 x1 y1) := rfl

theorem WordCount.glyph (c : Colour) (x y code : Word16) : WordCount.Statement (.glyph c x y code) := rfl

theorem WordCount.sendCmd (s : List Byte) : WordCount.Statement (.sendCmd s) := payloadOperands_length s

theorem WordCount.sendData (s : List Byte) : WordCount.Statement (.sendData s) := payloadOperands_length s

theorem WordCount.sendChunked (s : List Byte) : WordCount.Statement (.sendChunked s) := payloadOperands_length s

theorem WordCount.flush : WordCount.Statement .flush := rfl

end Sys2Proof.Laws
end

