-- ==== Sys2Proof/Tests/Slice0.lean ====
section
/-! SUPPORT. Tests. Expected results are the vectors of spec/95_test_vectors.md, named at each test, or hand calculation from
the rule named there; the glyph entries 65 and 1 are that file's test inputs. The theorems `witness_..` show, for each
statement with hypotheses, a state and operands that meet them, clause by clause. -/

namespace Sys2Proof.Tests

open Sys2Proof Sys2Proof.Machine

/-! ## A small machine -/

/-- The test font of 95_test_vectors.md: entries 65 and 1. -/
def testGlyph : Vector (Vector Byte 5) 128 :=
  ((Vector.replicate 128 (Vector.replicate 5 0)).setIfInBounds 65 #v[0x7C, 0x12, 0x11, 0x12, 0x7C]).setIfInBounds 1
    #v[0xFF, 0x81, 0x81, 0x81, 0xFF]

/-- A configuration of the given size, chunk and transfer limit. -/
def testCfg (w h chunk maxXfer : Nat) : Config where
  w := w
  h := h
  iface := .bus
  busAddr := 0x3C
  pfxCmdSingle := 0x11
  pfxCmdMulti := 0x22
  pfxDataSingle := 0x33
  pfxDataMulti := 0x44
  chunk := chunk
  maxXfer := maxXfer
  glyph := testGlyph
  descPort := .wordWide
  bringUpSeq := [0xA1, 0xA2]
  powerOffOpc := 0xAE
  dirInOpen := false
  dirInSetup := false

/-- The same small size with a host that sets the direction in `open` and in `setup`. -/
def directed : Config := { testCfg 8 16 32 32 with dirInOpen := true, dirInSetup := true }

/-- A freshly constructed block whose next collaborator calls do as the script says. -/
def testState (cfg : Config) (script : List Draw) : State := { State.reset with cfg := cfg, script := script }

/-- A block of 8 x 16 pixels, chunks of 32. -/
def small : State := testState (testCfg 8 16 32 32) (List.replicate 40 (.returns .ok))

/-- The same with the first framebuffer byte set: bit 5 of byte 3 (V-PT-1). -/
def dotted : State := { small with fb := [(3, 0x20)] }

/-- The state an outcome goes on to, if it does. -/
def nextOf (o : Host.Outcome State Fault Refusal) : Option State :=
  match o with
  | .next t => some t
  | .fault _ => none
  | .refused _ => none

/-- The framebuffer after an operation. -/
def fbAfter (i : Instr) (s : State) : Option (List Byte) := (nextOf (exec i s)).map State.snapshot

/-- The answers after an operation. -/
def repliesAfter (i : Instr) (s : State) : Option (List Reply) := (nextOf (exec i s)).map State.replies

/-- The transport writes after an operation. -/
def txAfter (i : Instr) (s : State) : Option (List TxEntry) := (nextOf (exec i s)).map State.txLog

/-! ## Well-formedness and decoding -/

/-- A payload of 65536 bytes has no length word (R93). -/
theorem test_wellFormed_payload_too_long :
    (Instr.sendCmd (List.replicate 65536 0)).wellFormed = false ∧ (Instr.sendData (List.replicate 65536 0)).wellFormed = false ∧
    (Instr.sendChunked (List.replicate 65536 0)).wellFormed = false ∧
    (Instr.sendChunked (List.replicate 65535 0)).wellFormed = true := by
  simp only [Instr.wellFormed, payloadFits, List.length_replicate]
  decide

/-- V-ENC-1, V-ENC-2 and R94: CLEAR. -/
theorem test_decode_clear : decode [0x0101] = .instr (.clear .set) 1 ∧ decode [0x0001] = .instr (.clear .clr) 1 := by decide

/-- V-ENC-3. -/
theorem test_decode_point : decode [0x0102, 0x0003, 0x0005] = .instr (.point .set 3 5) 3 := by decide

/-- V-ENC-4. -/
theorem test_decode_query : decode [0x0003, 0x0003, 0x0005] = .instr (.query 3 5) 3 := by decide

/-- P2 line 6. -/
theorem test_decode_snapshot : decode [0x0004] = .instr .snapshot 1 := by decide

/-- V-ENC-5, with the next descriptor's header behind it. -/
theorem test_decode_line :
    decode [0x0110, 0x0000, 0x0000, 0x0004, 0x0000, 0x0023] = .instr (.line .set 0 0 4 0) 5 := by decide

/-- V-ENC-6. -/
theorem test_decode_circle : decode [0x0111, 0x000B, 0x000B, 0x0004] = .instr (.circle .set 11 11 4) 4 := by decide

/-- P1 lines 2 and 3. -/
theorem test_decode_rect :
    decode [0x0112, 0x0002, 0x0002, 0x000D, 0x000D] = .instr (.rect .set 2 2 13 13) 5 ∧
    decode [0x0012, 0x0004, 0x0004, 0x000B, 0x000B] = .instr (.rect .clr 4 4 11 11) 5 := by decide

/-- V-ENC-7. -/
theorem test_decode_glyph : decode [0x0113, 0x0000, 0x0003, 0x0041] = .instr (.glyph .set 0 3 65) 4 := by decide

/-- V-ENC-8. -/
theorem test_decode_sendCmd : decode [0x0020, 0x0001, 0x00AE] = .instr (.sendCmd [0xAE]) 3 := by decide

/-- V-ENC-9. -/
theorem test_decode_sendData :
    decode [0x0021, 0x0003, 0x3412, 0x0056] = .instr (.sendData [0x12, 0x34, 0x56]) 4 := by decide

/-- V-ENC-10 and P3 line 8. -/
theorem test_decode_sendChunked :
    decode [0x0022, 0x0000] = .instr (.sendChunked []) 2 ∧
    decode [0x0022, 0x0009, 0x0201, 0x0403, 0x0605, 0x0807, 0x0009] = .instr (.sendChunked [1, 2, 3, 4, 5, 6, 7, 8, 9]) 7 := by
  decide

/-- V-ENC-11. -/
theorem test_decode_flush : decode [0x0023] = .instr .flush 1 := by decide

/-- V-ENC-12 to V-ENC-17: the illegal descriptors, their reasons and lengths. -/
theorem test_decode_illegal :
    decode [0x0005] = .illegal .reservedOpcode 1 ∧ decode [0x0202, 0x0001, 0x0001] = .illegal .reservedBits 3 ∧
    decode [0x0103, 0x0001, 0x0001] = .illegal .colourBit 3 ∧ decode [0x0123] = .illegal .colourBit 1 ∧
    decode [0x0020, 0x0001, 0xFFAE] = .illegal .padByte 3 ∧ decode [0x02FF] = .illegal .reservedOpcode 1 := by decide

/-- A descriptor whose words have not all arrived (R95). -/
theorem test_decode_incomplete :
    decode [] = .incomplete ∧ decode [0x0110, 0, 0, 4] = .incomplete ∧ decode [0x0020] = .incomplete ∧
    decode [0x0020, 0x0003, 0x0201] = .incomplete := by decide

/-- The table's numbering: the first word is the lowest bits, and the words above `nbits` are 0. -/
theorem test_decodeTableWord :
    decodeTableWord 16 0x0110 = some (.line .set 0 0 0 0) ∧ decodeTableWord 48 0x000500030102 = some (.point .set 3 5) ∧
    decodeTableWord 16 0x0021 = some (.sendData []) ∧ decodeTableWord 16 0x0005 = none := by decide

/-! ## Framebuffer operations -/

/-- V-CLR-1, V-CLR-2. -/
theorem test_clear :
    fbAfter (.clear .set) dotted = some (List.replicate 16 0xFF) ∧ fbAfter (.clear .clr) dotted = some (List.replicate 16 0) := by
  decide +kernel

/-- V-PT-3: page 1, column 7, bit 7. -/
theorem test_point_page_and_bit :
    (nextOf (exec (.point .set 7 15) small)).map State.fb = some [(15, 0x80)] := by decide

/-- V-PT-4, and V-PT-5 off the grid. -/
theorem test_point_clears_one_bit_or_nothing :
    (nextOf (exec (.point .clr 0 8) { small with fb := [(8, 0xFF)] })).map State.fb = some [(8, 0xFE)] ∧
    (nextOf (exec (.point .set 65535 0) small)).map State.fb = some [] := by decide

/-- V-QRY-1, V-QRY-2. -/
theorem test_query_in_range :
    repliesAfter (.query 3 5) dotted = some [.op (.ok (.pixel 1))] ∧ repliesAfter (.query 3 4) dotted = some [.op (.ok (.pixel 0))] := by
  decide

/-- V-QRY-3, V-QRY-4 on 8 x 16: the first row and the first column off the grid. -/
theorem test_query_out_of_range :
    repliesAfter (.query 0 16) dotted = some [.op .outOfRange] ∧ repliesAfter (.query 8 0) dotted = some [.op .outOfRange] := by
  decide

/-- V-SNP-1 on 8 x 16. -/
theorem test_snapshot :
    repliesAfter .snapshot dotted = some [.op (.ok (.bytes [0, 0, 0, 0x20, 0, 0, 0, 0, 0, 0, 0, 0, 0, 0, 0, 0]))] := by
  decide +kernel

/-! ## Rasterizer operations -/

/-- V-LIN-3 and V-LIN-8, in plotting order: steep left-down, shallow right-up. -/
theorem test_line_points :
    linePoints 4 4 2 8 = [(4, 4), (4, 5), (3, 6), (3, 7), (2, 8)] ∧
    linePoints 4 4 8 2 = [(4, 4), (5, 4), (6, 3), (7, 3), (8, 2)] := by decide +kernel

/-- V-LIN-14 on the upper page of 8 x 16. -/
theorem test_line_clears_a_diagonal :
    fbAfter (.line .clr 0 0 7 7) { small with fb := Mem.fill 16 0xFF } =
      some [0xFE, 0xFD, 0xFB, 0xF7, 0xEF, 0xDF, 0xBF, 0x7F, 0xFF, 0xFF, 0xFF, 0xFF, 0xFF, 0xFF, 0xFF, 0xFF] := by
  decide +kernel

/-- V-CIR-4. -/
theorem test_circle :
    fbAfter (.circle .set 3 3 3) small = some [0x1C, 0x22, 0x41, 0x41, 0x41, 0x22, 0x1C, 0, 0, 0, 0, 0, 0, 0, 0, 0] := by
  decide +kernel

/-- V-CIR-5: points with a negative coordinate are no-ops. -/
theorem test_circle_clipped :
    fbAfter (.circle .set 0 0 2) small = some [4, 4, 3, 0, 0, 0, 0, 0, 0, 0, 0, 0, 0, 0, 0, 0] := by decide +kernel

/-- V-REC-8: clearing over two page rows. -/
theorem test_rect_clear :
    fbAfter (.rect .clr 1 2 2 12) { small with fb := Mem.fill 16 0xFF } =
      some [0xFF, 3, 3, 0xFF, 0xFF, 0xFF, 0xFF, 0xFF, 0xFF, 0xE0, 0xE0, 0xFF, 0xFF, 0xFF, 0xFF, 0xFF] := by decide +kernel

/-- V-REC-7: clipped right and bottom. -/
theorem test_rect_clipped :
    fbAfter (.rect .set 6 6 20 20) small = some [0, 0, 0, 0, 0, 0, 0xC0, 0xC0, 0, 0, 0, 0, 0, 0, 0xFF, 0xFF] := by
  decide +kernel

/-- V-GLY-2: split over two page rows. -/
theorem test_glyph_split :
    fbAfter (.glyph .set 1 3 65) small = some [0, 0xE0, 0x90, 0x88, 0x90, 0xE0, 0, 0, 0, 3, 0, 0, 0, 3, 0, 0] := by
  decide +kernel

/-- V-GLY-4: the part below the grid is dropped; V-GLY-5 to V-GLY-7: rejections. -/
theorem test_glyph_bottom_and_rejections :
    fbAfter (.glyph .set 0 13 1) small = some [0, 0, 0, 0, 0, 0, 0, 0, 0xE0, 0x20, 0x20, 0x20, 0xE0, 0, 0, 0] ∧
    repliesAfter (.glyph .set 0 0 128) small = some [.op .invalidInput] ∧
    repliesAfter (.glyph .set 8 0 65) small = some [.op .invalidInput] ∧
    repliesAfter (.glyph .set 0 16 65) small = some [.op .invalidInput] := by decide +kernel

/-! ## Framer operations -/

/-- V-FRM-1, V-FRM-2: an empty payload takes the multi prefix, one byte the single prefix. -/
theorem test_sendCmd_short :
    txAfter (.sendCmd []) small = some [⟨0x3C, 0x22, [], .ok⟩] ∧ txAfter (.sendCmd [0xAE]) small = some [⟨0x3C, 0x11, [0xAE], .ok⟩] := by
  decide

/-- V-FRM-5: 33 bytes go unsplit and set OVERSIZE; V-FLS-6: a failed write. -/
theorem test_sendCmd_oversize_and_error :
    (nextOf (exec (.sendCmd (List.replicate 33 7)) small)).map (fun t => (t.txLog, t.oversize)) =
      some ([⟨0x3C, 0x22, List.replicate 33 7, .ok⟩], true) ∧
    repliesAfter (.sendCmd [0xAE]) { small with script := [.returns (.err 9)] } = some [.op (.transportError 0 9)] := by
  decide +kernel

/-- R215's example, and V-FRM-2. -/
theorem test_sendData :
    txAfter (.sendData [0x12, 0x34]) small = some [⟨0x3C, 0x44, [0x12, 0x34], .ok⟩] ∧
    txAfter (.sendData [0]) small = some [⟨0x3C, 0x33, [0], .ok⟩] := by decide

/-- V-FRM-5: two chunks, the second with the single prefix; V-FRM-1: no write. -/
theorem test_sendChunked :
    (nextOf (exec (.sendChunked (List.replicate 33 7)) small)).map (fun t => (t.txLog, t.oversize)) =
      some ([⟨0x3C, 0x44, List.replicate 32 7, .ok⟩, ⟨0x3C, 0x33, [7], .ok⟩], false) ∧
    txAfter (.sendChunked []) small = some [] := by decide +kernel

/-- V-FLS-3: chunks of 3. -/
theorem test_flush_chunks :
    txAfter .flush { testState (testCfg 8 8 3 4) (List.replicate 3 (.returns .ok)) with
        fb := [(0, 1), (1, 2), (2, 3), (3, 4), (4, 5), (5, 6), (6, 7), (7, 8)] } =
      some [⟨0x3C, 0x44, [1, 2, 3], .ok⟩, ⟨0x3C, 0x44, [4, 5, 6], .ok⟩, ⟨0x3C, 0x44, [7, 8], .ok⟩] := by decide +kernel

/-- V-FLS-4 with 8 x 16 and chunks of 4: the third write fails, the fourth chunk is not sent. -/
theorem test_flush_error :
    (nextOf (exec .flush { testState (testCfg 8 16 4 4) [.returns .ok, .returns .ok, .returns (.err 5), .returns .ok] with
        fb := [(0, 1), (9, 2)] })).map (fun t => (t.txLog, t.replies, t.fb)) =
      some ([⟨0x3C, 0x44, [1, 0, 0, 0], .ok⟩, ⟨0x3C, 0x44, [0, 0, 0, 0], .ok⟩, ⟨0x3C, 0x44, [0, 2, 0, 0], .err 5⟩],
        [.op (.transportError 2 5)], [(0, 1), (9, 2)]) := by decide +kernel

/-! ## Steps and the session -/

/-- V-ENC-17 with a header behind it: ILLEGAL takes one word; P3 line 6. -/
theorem test_step_illegal :
    (nextOf (step { small with pending := [.word 0x02FF, .word 0x0023] })).map (fun t => (t.pending, t.replies, t.txLog)) =
      some ([.word 0x0023], [.op .illegal], []) := by decide +kernel

/-- R96: SENDCMD 0xAE over a byte-wide port, low byte first. -/
theorem test_step_byte_port :
    (nextOf (step { small with
        cfg := { testCfg 8 16 32 32 with descPort := .byteWide }
        pending := [.byte 0x20, .byte 0x00, .byte 0x01, .byte 0x00, .byte 0xAE, .byte 0x00] })).map (fun t => (t.pending, t.txLog)) =
      some ([], [⟨0x3C, 0x11, [0xAE], .ok⟩]) := by decide +kernel

/-- After reset with nothing pending the block waits (R301). -/
theorem test_step_reset_waits : step State.reset = .next State.reset := rfl

/-- The first operation after reset, on every path that does not look at a free value. -/
theorem test_step_first_operation :
    (nextOf (step (State.reset.withFetchWord 16 0x0023))).isSome = true ∧
    (nextOf (step (State.reset.withFetchWord 48 0x000500030102))).map State.fb = some [(3, 0x20)] := by decide +kernel

/-- R277: the reset pulse and the bring-up frame. -/
theorem test_setup :
    (nextOf (sessionCall .setup small)).map (fun t => (t.resetLog, t.txLog, t.session)) =
      some ([.called (.setValue false) .ok, .hold, .called (.setValue true) .ok], [⟨0x3C, 0x22, [0xA1, 0xA2], .ok⟩], .active) := by
  decide +kernel

/-- R273 and R278: `set_direction(out)` at the start of `setup`, going well and failing (log 17). -/
theorem test_setup_direction :
    (nextOf (sessionCall .setup { small with cfg := directed })).map State.resetLog =
      some [.called .setDirectionOut .ok, .called (.setValue false) .ok, .hold, .called (.setValue true) .ok] ∧
    (nextOf (sessionCall .setup { small with cfg := directed, script := [.returns (.err 6)] })).map
      (fun t => (t.resetLog, t.replies, t.session)) =
      some ([.called .setDirectionOut (.err 6)], [.session (.resetControl .setDirectionOut 6)], .configured) := by
  decide +kernel

/-- R273 and R274: `set_direction(out)` in `open`, failing, constructs nothing (log 17, log 24). -/
theorem test_open_direction :
    (nextOf (sessionCall (.openBlock directed) { State.unopened with script := [.returns .ok, .returns (.err 6)] })).map
      (fun t => (t.resetLog, t.replies, t.live, t.session)) =
      some ([.called .setDirectionOut (.err 6)], [.session (.resetControl .setDirectionOut 6)], false, .uninitialized) := by
  decide +kernel

/-- R279 and R281: draw, then close, then an operation on the destroyed block (U2). -/
theorem test_draw_close :
    ((nextOf (sessionCall .draw { small with session := .active })).map fun t => (t.txLog.length, t.session)) = some (1, .active) ∧
    ((nextOf (sessionCall .close { small with session := .active })).map fun t => (t.txLog, t.live, t.session)) =
      some ([⟨0x3C, 0x11, [0xAE], .ok⟩], false, .closed) ∧
    ((nextOf (exec (.clear .set) { small with live := false })).map fun t => (t.fb, t.fault, t.replies)) = some ([], true, []) := by
  decide +kernel

/-! ## Witnesses: each statement's hypotheses are met, clause by clause -/

theorem small_inv : small.Inv :=
  ⟨by decide +kernel, by decide, by decide, by simp [small, testState, State.reset], by simp [small, testState, State.reset],
    by simp [small, testState, State.reset], by simp [small, testState, State.reset]⟩

/-- A state that meets the invariant in each session state, with frames in TXLOG. -/
theorem witness_StepKeepsInvariant :
    State.Inv { dotted with session := .active, txLog := [⟨0x3C, 0x11, [0xAE], .ok⟩], pending := [.call .draw] } ∧
    (nextOf (step { dotted with session := .active, txLog := [⟨0x3C, 0x11, [0xAE], .ok⟩], pending := [.call .draw] })).isSome = true :=
  ⟨⟨by decide +kernel, by decide, by decide, by simp, by intro t ht; simp at ht; subst ht; decide,
    by intro t ht; simp at ht; subst ht; decide,
    by intro _ t ht; simp at ht; subst ht; decide⟩, by decide +kernel⟩

theorem witness_DecodeInvertsEncode : (Instr.sendCmd [0xAE]).wellFormed = true ∧ (Instr.rect .set 2 2 13 13).wellFormed = true := by
  decide

theorem witness_DecodedWordsAreTheEncoding : decode [0x0021, 0x0003, 0x3412, 0x0056, 0x0004] = .instr (.sendData [0x12, 0x34, 0x56]) 4 := by
  decide

theorem witness_IllegalDescriptorCases :
    Opcode.ofByte (opcBits 0x0005) = none ∧
    (Opcode.ofByte (opcBits 0x0202) = some .point ∧ Opcode.totalWords .point [1, 1] = some 3 ∧ rsvBits 0x0202 ≠ 0) ∧
    (Opcode.ofByte (opcBits 0x0123) = some .flush ∧ rsvBits 0x0123 = 0 ∧ colourBit 0x0123 = 1 ∧ Opcode.usesColour .flush = false) ∧
    (Opcode.ofByte (opcBits 0x0020) = some .sendCmd ∧ Opcode.totalWords .sendCmd [1, 0xFFAE] = some 3 ∧ rsvBits 0x0020 = 0 ∧
      colourBit 0x0020 = 0 ∧ padByteBad .sendCmd [1, 0xFFAE] = true) ∧
    (padByteBad .sendCmd [1, 0x00AE] = false ∧ rsvBits 0x0101 = 0 ∧ Opcode.usesColour .clear = true) := by decide

theorem witness_IllegalDescriptorHasNoEffect :
    small.stalled = false ∧ small.live = true ∧
    decode (portWords .wordWide [.word 0x0020, .word 0x0001, .word 0xFFAE]) = .illegal .padByte 3 := by decide

theorem witness_StepRunsTheDecodedInstruction :
    small.stalled = false ∧ decode (portWords .wordWide [.word 0x0004, .overlap]) = .instr .snapshot 1 ∧
    decode (portWords .byteWide [.byte 0x04, .byte 0x00, .byte 0x01]) = .instr .snapshot 1 := by decide

theorem witness_StepRunsTheInstructionSent :
    (Instr.point .set 3 5).wellFormed = true ∧
    sendWords .byteWide (encode (.point .set 3 5)) ++ [.overlap] =
      [.byte 0x02, .byte 0x01, .byte 0x03, .byte 0x00, .byte 0x05, .byte 0x00, .overlap] := by decide

theorem witness_StepTakesTheHostsAction :
    small.stalled = false ∧ small.pending = [] ∧ State.stalled { small with stalled := true } = true ∧
    State.pending { small with pending := [.call .setup, .call .draw] } = [.call .setup, .call .draw] := by decide

/-- The clauses of StepTakesTheHostsAction over a descriptor that has not all arrived: an odd byte, a cut-off POINT, and a
transfer of the wrong width, at both ports. -/
theorem witness_awaiting :
    (isTransfer .byteWide (.byte 1) = true ∧ decode (portWords .byteWide [.byte 1]) = .incomplete) ∧
    (isTransfer .wordWide (.word 0x0102) = true ∧ isTransfer .wordWide (.call .draw) = false ∧
      decode (portWords .wordWide [.word 0x0102, .word 3]) = .incomplete) ∧
    (nextOf (step { small with pending := [.word 0x0102, .word 3] })).map State.fault = some false ∧
    (nextOf (step { small with pending := [.word 0x0102, .word 3, .call .draw] })).map (fun t => (t.pending, t.fault)) =
      some ([.call .draw], true) ∧
    (nextOf (step { small with pending := [.byte 4, .overlap] })).map (fun t => (t.pending, t.fault)) =
      some ([.overlap], true) := by decide +kernel

theorem witness_OperationReturnsOneResult :
    small.live = true ∧ repliesAfter (.clear .set) small = some [.op (.ok .unit)] ∧
    ((nextOf (exec .flush { small with script := [.never] })).map fun t => (t.replies, t.stalled)) = some ([], true) := by
  decide +kernel

theorem witness_OpenConstructsTheBlock :
    State.unopened.session = .uninitialized ∧ configLegal (testCfg 8 16 32 32) = true ∧
    State.okBefore (2 + (testCfg 8 16 32 32).dirInOpen.toNat) { State.unopened with script := [.returns .ok, .returns .ok] } ∧
    configLegal directed = true ∧
    State.okBefore (2 + directed.dirInOpen.toNat) { State.unopened with script := List.replicate 3 (.returns .ok) } :=
  ⟨by decide, by decide +kernel, okBefore_of_script (r := []) rfl, by decide +kernel, okBefore_of_script (r := []) rfl⟩

theorem witness_OpenFailureConstructsNothing :
    configLegal (testCfg 8 12 32 32) = false ∧ configLegal (testCfg 8 16 33 32) = false ∧
    State.drawAt 0 { State.unopened with script := [.returns (.err 1)] } = .returns (.err 1) ∧
    (State.okBefore 1 { State.unopened with script := [.returns .ok, .returns (.err 2)] } ∧
      State.drawAt 1 { State.unopened with script := [.returns .ok, .returns (.err 2)] } = .returns (.err 2)) ∧
    directed.dirInOpen = true ∧
    (State.okBefore (1 + directed.dirInOpen.toNat)
        { State.unopened with script := List.replicate 2 (.returns .ok) ++ [.returns (.err 2)] } ∧
      State.drawAt (1 + directed.dirInOpen.toNat)
        { State.unopened with script := List.replicate 2 (.returns .ok) ++ [.returns (.err 2)] } = .returns (.err 2)) :=
  ⟨by decide +kernel, by decide +kernel, rfl, ⟨okBefore_of_script (r := [.returns (.err 2)]) rfl, rfl⟩, rfl,
    okBefore_of_script (r := [.returns (.err 2)]) rfl, rfl⟩

/-- For the statements over a step of a constructed block (FramebufferLengthIsFixed, ConfigurationIsImmutable, TxLogOnlyGrows). -/
theorem witness_step_of_a_constructed_block :
    small.session ≠ .uninitialized ∧
    (nextOf (step { small with pending := [.word 0x0023] })).map (fun t => t.txLog.length) = some 1 := by decide +kernel

theorem witness_MarksAndDeathAreSticky :
    (nextOf (step { small with fault := true, oversize := true, live := false, session := .closed, pending := [.word 0x0001] })).map
      (fun t => (t.fault, t.oversize, t.live)) = some (true, true, false) := by decide +kernel

theorem witness_OnlyDrawingWritesTheFramebuffer :
    (nextOf (step { small with pending := [.word 0x0102, .word 7, .word 15] })).map State.fb = some [(15, 0x80)] := by
  decide +kernel

theorem witness_PixelMappingIsABijection :
    configLegal (testCfg 8 16 32 32) = true ∧ pixelIndex 8 7 15 = 15 ∧ fbSize (testCfg 8 16 32 32) = 16 ∧ 15 / 8 * 8 + 7 = 15 := by
  decide +kernel

/-- Both corners of the grid and the first coordinates off it, for POINT and QUERY. -/
theorem witness_points :
    small.live = true ∧ (0 : Word16).toNat < small.cfg.w ∧ (7 : Word16).toNat < small.cfg.w ∧ (15 : Word16).toNat < small.cfg.h ∧
    (8 : Word16).toNat ≥ small.cfg.w ∧ (16 : Word16).toNat ≥ small.cfg.h := by decide

theorem witness_FramebufferLaws :
    configLegal small.cfg = true ∧ Mem.wf (fbSize small.cfg) [(3, 0x20)] = true ∧ ¬ inGrid 8 16 (-1) 0 ∧ ¬ inGrid 8 16 0 16 ∧
    ((0 : Int), (0 : Int)) ≠ (0, 1) ∧ (nextOf (exec (.clear .set) small)).isSome = true ∧ small.live = true ∧
    ((nextOf (exec (.point .set 3 5) small)).bind fun t => (nextOf (exec (.point .clr 3 5) t)).map State.fb) = some [] := by
  decide +kernel

theorem witness_ApplyMaskIsPlotsOfItsBits :
    15 < fbSize small.cfg ∧ [7, 0].Perm ((List.range 8).filter fun b => (0x81 : Byte).getLsbD b) ∧
    (0x81 : Byte).getLsbD 1 = false := by decide +kernel

theorem witness_LineIsEightConnected :
    (linePoints 4 4 2 8)[3]? = some (3, 7) ∧ (linePoints 4 4 2 8)[4]? = some (2, 8) := by decide +kernel

theorem witness_CircleIsSymmetric : ((0 : Int), (1 : Int)) ∈ circlePoints 0 0 1 := by decide +kernel

/-- RECT's clauses: backwards, and a pixel on each corner of the box. -/
theorem witness_RectFillsItsBox :
    small.live = true ∧ (5 : Word16).toNat > (2 : Word16).toNat ∧
    ((fbAfter (.rect .set 1 6 2 9) small).map fun l => (l[1]?, l[2]?, l[9]?, l[10]?)) =
      some (some 0xC0, some 0xC0, some 0x03, some 0x03) := by decide +kernel

theorem witness_RectPathsGiveTheSameFramebuffer :
    configLegal small.cfg = true ∧ Mem.wf (fbSize small.cfg) [(3, 0x20)] = true ∧
    Mem.bytes 16 (rectPaths small.cfg .set 6 6 20 20 []) = [0, 0, 0, 0, 0, 0, 0xC0, 0xC0, 0, 0, 0, 0, 0, 0, 0xFF, 0xFF] := by
  decide +kernel

/-- GLYPH's clauses at the boundary: code 127 and 128, the last column and the first off the grid. -/
theorem witness_GlyphPaintsItsCell :
    (127 : Word16).toNat ≤ 127 ∧ (128 : Word16).toNat > 127 ∧ (7 : Word16).toNat < small.cfg.w ∧ (8 : Word16).toNat ≥ small.cfg.w ∧
    (15 : Word16).toNat < small.cfg.h ∧ (16 : Word16).toNat ≥ small.cfg.h := by decide

theorem witness_GlyphBytesGiveTheSameFramebuffer :
    configLegal small.cfg = true ∧
    Mem.bytes 16 (glyphBytes small.cfg .set 1 3 65 []) = [0, 0xE0, 0x90, 0x88, 0x90, 0xE0, 0, 0, 0, 3, 0, 0, 0, 3, 0, 0] := by
  decide +kernel

/-- GLYPH's page laws: aligned and shifted anchors, a clear cell, a rejected code. -/
theorem witness_GlyphPageLaws :
    (0 : Word16).toNat % 8 = 0 ∧ (3 : Word16).toNat % 8 ≠ 0 ∧ (3 : Word16).toNat / 8 + 1 < pageCount small.cfg ∧
    ¬ glyphRejects small.cfg 1 3 65 ∧ (∀ i < 5, ∀ k < 8, pixelAt 8 small.fb (1 + i) (3 + k) = 0) ∧
    (nextOf (exec (.glyph .set 1 3 65) small)).isSome = true ∧
    repliesAfter (.glyph .set 0 0 128) small = some [.op .invalidInput] := by decide +kernel

theorem witness_PrefixByKindAndLength : configLegal small.cfg = true ∧ (0 : Nat) ≠ 1 ∧ selectPfx small.cfg .data 0 = 0x44 := by
  decide +kernel

/-- The chunks' clauses: 33 bytes in chunks of 32, a first and a last chunk. -/
theorem witness_ChunksOfAPayload :
    ((chunks 32 (List.replicate 33 7)).map List.length) = [32, 1] ∧ ((chunks 32 (List.replicate 32 7)).map List.length) = [32] ∧
    chunks 32 [] = [] := by decide +kernel

/-- Each clause of SendsFrames, for the four framer operations. -/
theorem witness_SendsFrames :
    small.live = true ∧ small.cfg.iface = .bus ∧ small.okBefore 1 ∧
    State.drawAt 0 { small with script := [.returns (.err 3)] } = .returns (.err 3) ∧
    (State.okBefore 1 { small with script := [.returns .ok, .returns (.err 3)] } ∧
      State.drawAt 1 { small with script := [.returns .ok, .returns (.err 3)] } = .returns (.err 3)) ∧
    State.drawAt 0 { small with script := [.never] } = .never :=
  ⟨by decide, by decide, okBefore_of_script (k := 1) (r := List.replicate 39 (.returns .ok)) rfl, rfl,
    ⟨okBefore_of_script (r := [.returns (.err 3)]) rfl, rfl⟩, rfl⟩

theorem witness_FullFrameIsThirtyTwoDataFrames :
    State.okBefore 32 (testState (testCfg 128 64 32 32) (List.replicate 32 (.returns .ok))) ∧
    (testCfg 128 64 32 32).iface = .bus :=
  ⟨okBefore_of_script (k := 32) (r := []) rfl, by decide⟩

theorem witness_OversizeBySingleFramesOnly :
    configLegal small.cfg = true ∧
    (nextOf (exec (.sendData (List.replicate 33 0)) small)).map State.oversize = some true ∧
    (nextOf (exec (.sendData (List.replicate 32 0)) small)).map State.oversize = some false ∧
    (nextOf (exec .flush small)).map State.oversize = some false := by decide +kernel

theorem witness_NoInterfaceNoWrite :
    isFramer .flush = true ∧ isFramer (.clear .set) = false ∧
    repliesAfter .flush { small with cfg := { testCfg 8 16 32 32 with iface := .none } } = some [.op .noInterface] := by
  decide +kernel

/-- For the frames of the framer and of the drawing operations. -/
theorem witness_frames :
    small.live = true ∧ isFramer (.sendCmd []) = true ∧ (nextOf (exec (.sendCmd []) small)).isSome = true ∧
    isFramer (.query 0 0) = false ∧ drawsPixels (.query 0 0) = false ∧ (nextOf (exec (.query 0 0) small)).isSome = true := by
  decide +kernel

theorem witness_FramerIgnoresPayloadContent : ([1, 2] : List Byte).length = ([3, 4] : List Byte).length := by decide

/-- Each clause of StateAfterAnError: an error without effect, and the second write failing. -/
theorem witness_StateAfterAnError :
    (nextOf (exec (.query 8 0) small)).map State.replies = some (small.replies ++ [.op .outOfRange]) ∧
    (nextOf (exec (.sendChunked (List.replicate 33 0)) { small with script := [.returns .ok, .returns (.err 7)] })).map
      State.replies = some [.op (.transportError 1 7)] := by decide +kernel

theorem witness_WhoReturnsWhichError :
    small.live = true ∧ repliesAfter (.glyph .clr 0 0 128) small = some (small.replies ++ [.op .invalidInput]) ∧
    repliesAfter (.query 0 16) small = some (small.replies ++ [.op .outOfRange]) := by decide +kernel

/-- The hypotheses of the statements about setup, draw and close, each failing step included. -/
theorem witness_session_calls :
    small.session = .configured ∧ small.live = true ∧ small.cfg.iface = .bus ∧ small.okBefore 3 ∧
    State.drawAt 0 { small with script := [.returns (.err 4)] } = .returns (.err 4) ∧
    (State.okBefore 1 { small with script := [.returns .ok, .returns (.err 4)] } ∧
      State.drawAt 1 { small with script := [.returns .ok, .returns (.err 4)] } = .returns (.err 4)) ∧
    (State.okBefore 2 { small with script := [.returns .ok, .returns .ok, .returns (.err 4)] } ∧
      State.drawAt 2 { small with script := [.returns .ok, .returns .ok, .returns (.err 4)] } = .returns (.err 4)) :=
  ⟨by decide, by decide, by decide, okBefore_of_script (k := 3) (r := List.replicate 37 (.returns .ok)) rfl, rfl,
    ⟨okBefore_of_script (r := [.returns (.err 4)]) rfl, rfl⟩, ⟨okBefore_of_script (r := [.returns (.err 4)]) rfl, rfl⟩⟩

/-- The same with a host that sets the direction in `setup`, and without an interface. -/
theorem witness_setup_direction :
    directed.dirInSetup = true ∧ State.okBefore (3 + directed.dirInSetup.toNat) { small with cfg := directed } ∧
    (State.okBefore (2 + directed.dirInSetup.toNat)
        { small with script := List.replicate 3 (.returns .ok) ++ [.returns (.err 4)] } ∧
      State.drawAt (2 + directed.dirInSetup.toNat)
        { small with script := List.replicate 3 (.returns .ok) ++ [.returns (.err 4)] } = .returns (.err 4)) ∧
    ((nextOf (sessionCall .setup { small with cfg := { testCfg 8 16 32 32 with iface := .none } })).map State.replies) =
      some [.op .noInterface, .session (.block .noInterface)] :=
  ⟨rfl, okBefore_of_script (k := 4) (r := List.replicate 36 (.returns .ok)) rfl,
    ⟨okBefore_of_script (r := [.returns (.err 4)]) rfl, rfl⟩, by decide +kernel⟩

/-- Both clauses of DrawRunsFlush: FLUSH returns a result, and FLUSH's write never returns. -/
theorem witness_DrawRunsFlush :
    repliesAfter .flush { small with session := .flushing } = some [.op (.ok .unit)] ∧
    (repliesAfter .flush { small with session := .flushing, script := [.never] }) = some [] := by decide +kernel

/-- Each clause of ContractViolationsSetFault. -/
theorem witness_ContractViolationsSetFault :
    small.session ≠ .active ∧ SessionState.active ≠ .configured ∧ small.session ≠ .uninitialized ∧
    (State.unopened.session ≠ .configured ∧ State.unopened.session ≠ .active) ∧ State.session { small with session := .closed } = .closed ∧
    State.live { small with live := false } = false ∧
    State.Inv { small with live := false, session := .closed } ∧
    State.pending { small with pending := [.overlap, .word 1] } = [.overlap, .word 1] :=
  ⟨by decide, by decide, by decide, by decide, rfl, rfl,
    ⟨by decide +kernel, by decide, by decide, by simp, by simp [small, testState, State.reset],
      by simp [small, testState, State.reset], by simp [small, testState, State.reset]⟩, rfl⟩

end Sys2Proof.Tests
end

section
/-! SUPPORT. Every step keeps the invariant. `State.Inv` is taken apart into what it says of the block alone
(`State.BlockSound`: configuration, framebuffer, TXLOG), which every operation keeps, and what it says of the session.
Between two steps of a machine that is not stalled the session is not Flushing (`State.Ready`), and every part of a step but
FLUSH inside `draw` runs from such a state to such a state. -/

namespace Sys2Proof.Machine

/-! ## The invariant in two parts -/

/-- What the invariant says of the block alone, LIVE and the session aside: it speaks of `cfg`, `fb`, `txLog` and `oversize`. -/
structure State.BlockSound (s : State) : Prop where
  legal : configLegal s.cfg = true
  memory : Mem.wf (fbSize s.cfg) s.fb = true
  frames : ∀ t ∈ s.txLog, pfxMatches s.cfg t = true
  addressed : ∀ t ∈ s.txLog, t.addr = s.cfg.busAddr
  lengths : s.oversize = false → ∀ t ∈ s.txLog, t.payload.length ≤ s.cfg.maxXfer

/-- The invariant of a machine whose session is not Flushing, as it is at the start of every step that is taken. -/
structure State.Ready (s : State) : Prop where
  block : s.BlockSound
  life : s.live = s.session.hasBlock
  notFlushing : s.session ≠ .flushing

theorem inv_iff {s : State} :
    s.Inv ↔ s.BlockSound ∧ s.live = s.session.hasBlock ∧ (s.session = .flushing → s.stalled = true) :=
  ⟨fun ⟨legal, memory, life, flushing, frames, addressed, lengths⟩ =>
    ⟨⟨legal, memory, frames, addressed, lengths⟩, life, flushing⟩,
   fun ⟨⟨legal, memory, frames, addressed, lengths⟩, life, flushing⟩ =>
    ⟨legal, memory, life, flushing, frames, addressed, lengths⟩⟩

theorem State.Ready.inv {s : State} (h : s.Ready) : s.Inv :=
  inv_iff.2 ⟨h.block, h.life, fun hf => absurd hf h.notFlushing⟩

theorem State.Inv.ready {s : State} (h : s.Inv) (hs : s.stalled = false) : s.Ready := by
  obtain ⟨block, life, flushing⟩ := inv_iff.1 h
  exact ⟨block, life, fun hf => by simp [flushing hf] at hs⟩

theorem State.BlockSound.of_eq {s t : State} (h : s.BlockSound) (cfg : t.cfg = s.cfg) (fb : t.fb = s.fb)
    (txLog : t.txLog = s.txLog) (oversize : t.oversize = s.oversize) : t.BlockSound := by
  obtain ⟨legal, memory, frames, addressed, lengths⟩ := h
  constructor <;> simpa only [cfg, fb, txLog, oversize]

theorem State.Ready.of_eq {s t : State} (h : s.Ready) (block : t.BlockSound) (live : t.live = s.live)
    (session : t.session = s.session) : t.Ready :=
  ⟨block, by rw [live, session, h.life], by rw [session]; exact h.notFlushing⟩

/-! ## Framebuffer and frames -/

theorem height_mod_eight {cfg : Config} (h : configLegal cfg = true) : cfg.h % 8 = 0 := by
  simp only [configLegal, sideLegal, Bool.and_eq_true, decide_eq_true_eq] at h
  omega

/-- A framebuffer in canonical form in place of the old one (R32, R33). -/
theorem State.BlockSound.setFb {s : State} (h : s.BlockSound) {fb : Mem} (hf : Mem.wf (fbSize s.cfg) fb = true) :
    State.BlockSound { s with fb := fb } := { h with memory := hf }

theorem State.BlockSound.paint {s : State} (h : s.BlockSound) (c : Colour) (pts : List (Int × Int)) :
    (s.paint c pts).BlockSound := h.setFb (wf_paint (height_mod_eight h.legal) h.memory c pts)

theorem pfxMatches_frameEntry (cfg : Config) (kind : FrameKind) (o : IoOutcome) (p : List Byte) :
    pfxMatches cfg (frameEntry cfg kind o p) = true := by
  cases kind <;> simp [pfxMatches, frameEntry]

/-- A frame adds nothing to TXLOG but its own entry. -/
theorem mem_sendFrame_txLog {kind : FrameKind} {p : List Byte} {s : State} {t : TxEntry}
    (h : t ∈ (sendFrame kind p s).2.txLog) : t ∈ s.txLog ∨ ∃ o, t = frameEntry s.cfg kind o p := by
  rw [sendFrame_txLog] at h
  split at h
  next => exact .inl h
  next o _ => exact (List.mem_append.1 h).imp_right fun h => ⟨o, List.mem_singleton.1 h⟩

/-- One frame keeps the block's part of the invariant: its entry carries the bus address and what its length asks for (R14, R103),
and OVERSIZE is set where it is longer than `MAX_XFER` (R218). -/
theorem State.BlockSound.sendFrame {s : State} (h : s.BlockSound) (kind : FrameKind) (p : List Byte) :
    (sendFrame kind p s).2.BlockSound where
  legal := by simpa using h.legal
  memory := by simpa using h.memory
  frames t ht := by
    rw [sendFrame_cfg]
    obtain ht | ⟨o, rfl⟩ := mem_sendFrame_txLog ht
    · exact h.frames t ht
    · exact pfxMatches_frameEntry s.cfg kind o p
  addressed t ht := by
    rw [sendFrame_cfg]
    obtain ht | ⟨o, rfl⟩ := mem_sendFrame_txLog ht
    · exact h.addressed t ht
    · rfl
  lengths ho t ht := by
    rw [sendFrame_oversize, Bool.or_eq_false_iff, decide_eq_false_iff_not, not_lt] at ho
    rw [sendFrame_cfg]
    obtain ht | ⟨o, rfl⟩ := mem_sendFrame_txLog ht
    · exact h.lengths ho.1 t ht
    · exact ho.2

theorem sendFrame_none_stalled {kind : FrameKind} {p : List Byte} {s : State} (h : (sendFrame kind p s).1 = none) :
    (sendFrame kind p s).2.stalled = true := by
  cases hd : s.nextDraw with
  | returns o => simp [sendFrame_returns hd] at h
  | never => simp [sendFrame_never hd]

/-- An operation's frames end without a result only where a write never returned (R312). -/
theorem sendAll_none_stalled {kind : FrameKind} {frames : List (List Byte)} {k : Nat} {s : State}
    (h : (sendAll kind k frames s).1 = none) : (sendAll kind k frames s).2.stalled = true := by
  induction frames generalizing k s with
  | nil => simp [sendAll] at h
  | cons p rest ih =>
    unfold sendAll at h ⊢
    split at h
    next hn => exact sendFrame_none_stalled hn
    next => simp at h
    next => exact ih h

theorem withInterface_none_stalled {kind : FrameKind} {k : Nat} {frames : List (List Byte)} {s : State}
    (h : (withInterface (sendAll kind k frames) s).1 = none) :
    (withInterface (sendAll kind k frames) s).2.stalled = true := by
  cases hi : s.cfg.iface with
  | none => simp [withInterface_none hi] at h
  | bus => rw [withInterface_bus hi] at h ⊢; exact sendAll_none_stalled h

/-! ## Operations -/

/-- What an operation's body does: it keeps the block's part of the invariant, and touches neither LIVE nor the session. -/
structure KeepsBlock (body : State → Option Result × State) : Prop where
  block : ∀ s : State, s.BlockSound → (body s).2.BlockSound
  live : ∀ s : State, (body s).2.live = s.live
  session : ∀ s : State, (body s).2.session = s.session

/-- The body of each operation. -/
def instrBody : Instr → State → Option Result × State
  | .clear c => clearBody c
  | .point c x y => pointBody c x y
  | .query x y => queryBody x y
  | .snapshot => snapshotBody
  | .line c x0 y0 x1 y1 => lineBody c x0 y0 x1 y1
  | .circle c x0 y0 r => circleBody c x0 y0 r
  | .rect c x0 y0 x1 y1 => rectBody c x0 y0 x1 y1
  | .glyph c x y code => glyphBody c x y code
  | .sendCmd payload => sendCmdBody payload
  | .sendData payload => sendDataBody payload
  | .sendChunked payload => sendChunkedBody payload
  | .flush => flushBody

/-- Every operation is its body, issued to the block. -/
theorem exec_eq_runOp (i : Instr) (s : State) : exec i s = runOp (instrBody i) s := by cases i <;> rfl

/-- A body that answers and leaves the state as it was. -/
theorem keepsBlock_answer (r : State → Result) : KeepsBlock fun s => (some (r s), s) :=
  ⟨fun _ h => h, fun _ => rfl, fun _ => rfl⟩

/-- A body that paints points of its choice. -/
theorem keepsBlock_paint (r : Result) (c : Colour) (pts : List (Int × Int)) : KeepsBlock fun s => (some r, s.paint c pts) :=
  ⟨fun _ h => h.paint c pts, fun _ => rfl, fun _ => rfl⟩

theorem keepsBlock_clear (c : Colour) : KeepsBlock (clearBody c) :=
  ⟨fun _ h => h.setFb (mem_wf_fill _ _), fun _ => rfl, fun _ => rfl⟩

/-- GLYPH rejects, or paints points that its state's configuration gives (R168). -/
theorem keepsBlock_glyph (c : Colour) (x y code : Word16) : KeepsBlock (glyphBody c x y code) := by
  refine ⟨fun s h => ?_, fun s => ?_, fun s => ?_⟩ <;> unfold glyphBody <;> split
  · exact h
  · exact h.paint c _
  all_goals rfl

/-- A framer operation, whose frames may depend on the state it starts from. -/
theorem keepsBlock_frames (kind : FrameKind) (frames : State → List (List Byte)) :
    KeepsBlock fun s => withInterface (sendAll kind 0 (frames s)) s where
  block s h := by
    cases hi : s.cfg.iface with
    | none => rw [withInterface_none hi]; exact h
    | bus =>
      rw [withInterface_bus hi]
      exact sendAll_keeps (P := State.BlockSound) kind (frames s) (fun p _ _ ht => ht.sendFrame kind p) 0 s h
  live _ := withInterface_sendAll_live ..
  session _ := withInterface_sendAll_session ..

theorem keepsBlock_instrBody (i : Instr) : KeepsBlock (instrBody i) := by
  cases i with
  | clear c => exact keepsBlock_clear c
  | point c x y => exact keepsBlock_paint ..
  | query x y => exact keepsBlock_answer _
  | snapshot => exact keepsBlock_answer _
  | line c x0 y0 x1 y1 => exact keepsBlock_paint ..
  | circle c x0 y0 r => exact keepsBlock_paint ..
  | rect c x0 y0 x1 y1 => exact keepsBlock_paint ..
  | glyph c x y code => exact keepsBlock_glyph c x y code
  | sendCmd payload => exact keepsBlock_frames .cmd fun _ => [payload]
  | sendData payload => exact keepsBlock_frames .data fun _ => [payload]
  | sendChunked payload => exact keepsBlock_frames .data fun s => chunks s.cfg.chunk payload
  | flush => exact keepsBlock_frames .data fun s => chunks s.cfg.chunk s.snapshot

/-- Issuing such a body, to a block that lives or not, keeps what the body keeps. -/
theorem KeepsBlock.issue {body : State → Option Result × State} (hb : KeepsBlock body) :
    KeepsBlock (Machine.issue body) := by
  refine ⟨fun s h => ?_, fun s => ?_, fun s => ?_⟩ <;> unfold Machine.issue <;> split
  · exact (hb.block s h).of_eq (by simp) (by simp) (by simp) (by simp)
  · exact h.of_eq rfl rfl rfl rfl
  · simpa using hb.live s
  · rfl
  · simpa using hb.session s
  · rfl

theorem KeepsBlock.ready {body : State → Option Result × State} (hb : KeepsBlock body) {s : State} (h : s.Ready) :
    (body s).2.Ready := h.of_eq (hb.block s h.block) (hb.live s) (hb.session s)

theorem exec_inv {i : Instr} {s t : State} (h : s.Ready) (ht : exec i s = .next t) : t.Inv := by
  rw [exec_eq_runOp] at ht
  cases ht
  exact ((keepsBlock_instrBody i).issue.ready h).inv

/-- Only a living block returns a result (R39). -/
theorem live_of_issue_some {body : State → Option Result × State} {s : State} {r : Result}
    (h : (issue body s).1 = some r) : s.live = true := by
  by_contra hl
  simp [issue_dead (Bool.eq_false_iff.2 hl)] at h

/-! ## What the host's side does to the state -/

theorem State.Ready.markFault {s : State} (h : s.Ready) : s.markFault.Ready :=
  h.of_eq (h.block.of_eq rfl rfl rfl rfl) rfl rfl

theorem State.Ready.take {s : State} (h : s.Ready) (n : Nat) : (s.take n).Ready :=
  h.of_eq (h.block.of_eq rfl rfl rfl rfl) rfl rfl

theorem State.Ready.hold {s : State} (h : s.Ready) : s.hold.Ready := h.of_eq (h.block.of_eq rfl rfl rfl rfl) rfl rfl

theorem State.Ready.returns {s : State} (h : s.Ready) (r : SessionResult) : (s.returns r).Ready :=
  h.of_eq (h.block.of_eq rfl rfl rfl rfl) rfl rfl

theorem State.Ready.resetControl {s : State} (h : s.Ready) (c : ResetCall) : (resetControl c s).2.Ready :=
  h.of_eq (h.block.of_eq (by simp) (by simp) (by simp) (by simp)) (by simp) (by simp)

theorem State.Ready.setDirection {s : State} (h : s.Ready) (due : Bool) : (setDirection due s).2.Ready :=
  h.of_eq (h.block.of_eq (by simp) (by simp) (by simp) (by simp)) (by simp) (by simp)

theorem State.Ready.acquire {s : State} (h : s.Ready) : (acquire s).2.Ready :=
  h.of_eq (h.block.of_eq (by simp) (by simp) (by simp) (by simp)) (by simp) (by simp)

/-- The session ends Closed and LIVE is false (R39, R281). -/
theorem State.Ready.shut {s : State} (h : s.Ready) : s.shut.Ready :=
  ⟨h.block.of_eq rfl rfl rfl rfl, rfl, by simp⟩

/-- A living block's session becomes Active (R277, R279). -/
theorem State.BlockSound.activate {s : State} (h : s.BlockSound) (hl : s.live = true) :
    State.Ready { s with session := .active } := ⟨h.of_eq rfl rfl rfl rfl, hl, by simp⟩

/-- Construction meets the invariant whatever state it starts from (R31, R34, R300). -/
theorem construct_ready {cfg : Config} (hc : configLegal cfg = true) (s : State) : (construct cfg s).Ready where
  block := ⟨hc, rfl, by simp [construct], by simp [construct], by simp [construct]⟩
  life := rfl
  notFlushing := by simp [construct]

/-! ## Session calls -/

theorem openTransport_ready {cfg : Config} (hc : configLegal cfg = true) {s : State} (h : s.Ready) :
    (openTransport cfg s).Ready := by
  unfold openTransport
  split
  · exact h.acquire
  · exact h.acquire.returns _
  · exact (construct_ready hc _).returns _

theorem openDirection_ready {cfg : Config} (hc : configLegal cfg = true) {s : State} (h : s.Ready) :
    (openDirection cfg s).Ready := by
  have hd := h.setDirection cfg.dirInOpen
  unfold openDirection
  dsimp only
  split
  · exact hd
  · exact hd.returns _
  · exact openTransport_ready hc hd

theorem openCollaborators_ready {cfg : Config} (hc : configLegal cfg = true) {s : State} (h : s.Ready) :
    (openCollaborators cfg s).Ready := by
  unfold openCollaborators
  split
  · exact h.acquire
  · exact h.acquire.returns _
  · exact openDirection_ready hc h.acquire

theorem openCall_ready {cfg : Config} {s t : State} (h : s.Ready) (ht : openCall cfg s = .next t) : t.Ready := by
  unfold openCall at ht
  split_ifs at ht with _ hc <;> cases ht
  · exact openCollaborators_ready hc h
  · exact h.markFault

theorem setupBringUp_ready {s : State} (h : s.Ready) : (setupBringUp s).Ready := by
  have hk : KeepsBlock (issue (sendCmdBody s.cfg.bringUpSeq)) := (keepsBlock_instrBody (.sendCmd _)).issue
  unfold setupBringUp
  dsimp only
  split
  next => exact hk.ready h
  next hr => exact ((hk.block s h.block).activate ((hk.live s).trans (live_of_issue_some hr))).returns _
  next => exact (hk.ready h).returns _

theorem setupRelease_ready {s : State} (h : s.Ready) : (setupRelease s).Ready := by
  have hr := h.hold.resetControl (.setValue true)
  unfold setupRelease
  dsimp only
  split
  · exact hr
  · exact hr.returns _
  · exact setupBringUp_ready hr

theorem setupPulse_ready {s : State} (h : s.Ready) : (setupPulse s).Ready := by
  have hr := h.resetControl (.setValue false)
  unfold setupPulse
  dsimp only
  split
  · exact hr
  · exact hr.returns _
  · exact setupRelease_ready hr

theorem setupDirection_ready {s : State} (h : s.Ready) : (setupDirection s).Ready := by
  have hd := h.setDirection s.cfg.dirInSetup
  unfold setupDirection
  dsimp only
  split
  · exact hd
  · exact hd.returns _
  · exact setupPulse_ready hd

theorem setupCall_ready {s : State} (h : s.Ready) : (setupCall s).Ready := by
  unfold setupCall
  split
  · exact setupDirection_ready h
  · exact h.markFault

theorem closeRelease_ready {s : State} (h : s.Ready) : (closeRelease s).Ready := by
  have hr := h.resetControl .release
  unfold closeRelease
  dsimp only
  split
  · exact hr
  · exact hr.shut.returns _
  · exact hr.shut.returns _

theorem closePowerOff_ready {s : State} (h : s.Ready) : (closePowerOff s).Ready := by
  have hr : (issue (sendCmdBody [s.cfg.powerOffOpc]) s).2.Ready := (keepsBlock_instrBody (.sendCmd _)).issue.ready h
  unfold closePowerOff
  dsimp only
  split
  · exact hr
  · exact closeRelease_ready hr
  · exact hr.shut.returns _

theorem closeCall_ready {s : State} (h : s.Ready) : (closeCall s).Ready := by
  unfold closeCall
  split
  · exact closePowerOff_ready h
  · exact h.markFault

/-- A living block's FLUSH ends without a result only where a write never returned (R312). -/
theorem issue_flush_none_stalled {s : State} (hl : s.live = true) (h : (issue flushBody s).1 = none) :
    (issue flushBody s).2.stalled = true := by
  rw [issue_live hl] at h ⊢
  exact (state_answer_stalled _ _).trans (withInterface_none_stalled h)

/-- The end of `draw` is the one place where the session stays Flushing, and then the machine is stalled (R279, R312). -/
theorem drawEnd_inv {sent : Option Result × State} (hb : sent.2.BlockSound) (hl : sent.2.live = true)
    (hs : sent.2.session = .flushing) (hn : sent.1 = none → sent.2.stalled = true) : (drawEnd sent).Inv := by
  unfold drawEnd
  split
  next hr => exact inv_iff.2 ⟨hb, by rw [hl, hs]; rfl, fun _ => hn hr⟩
  next => exact ((hb.activate hl).returns _).inv
  next => exact ((hb.activate hl).returns _).inv

theorem drawCall_inv {s : State} (h : s.Ready) : (drawCall s).Inv := by
  unfold drawCall
  split
  next ha =>
    have hl : s.live = true := by rw [h.life, ha]; rfl
    have hk : KeepsBlock (issue flushBody) := (keepsBlock_instrBody .flush).issue
    exact drawEnd_inv (hk.block _ (h.block.of_eq rfl rfl rfl rfl)) ((hk.live _).trans hl) (hk.session _)
      (issue_flush_none_stalled hl)
  next => exact h.markFault.inv

theorem sessionCall_inv {c : SessionCall} {s t : State} (h : s.Ready) (ht : sessionCall c s = .next t) : t.Inv := by
  cases c with
  | openBlock cfg => exact (openCall_ready h ht).inv
  | setup => cases ht; exact (setupCall_ready h).inv
  | draw => cases ht; exact drawCall_inv h
  | close => cases ht; exact (closeCall_ready h).inv

/-! ## Fetching, and the step -/

/-- The state that fetching hands on, where it hands one on, has the property. -/
def Fetched.Holds (P : State → Prop) : Fetched → Prop
  | .stuck _ => True
  | .settled t => P t
  | .call _ t => P t
  | .instr _ t => P t

theorem awaitWords_ready {s : State} (h : s.Ready) : (awaitWords s).Ready := by
  unfold awaitWords
  split
  · exact h
  · exact (h.take _).markFault

theorem fetchDescriptor_ready {s : State} (h : s.Ready) : (fetchDescriptor s).Holds State.Ready := by
  unfold fetchDescriptor
  split
  · exact h.take _
  · exact (keepsBlock_answer fun _ => .illegal).issue.ready (h.take _)
  · exact awaitWords_ready h

theorem fetch_ready {s : State} (h : s.Ready) : (fetch s).Holds State.Ready := by
  unfold fetch
  split
  · trivial
  · split
    · exact h
    · exact h.take 1
    · exact (h.take 1).markFault
    · exact fetchDescriptor_ready h
    · exact fetchDescriptor_ready h

/-- A stalled machine takes no step (R312). -/
theorem not_stalled_of_step_next {s t : State} (h : step s = .next t) : s.stalled = false := by
  by_contra hs
  simp [step, fetch, Bool.eq_true_of_not_eq_false hs] at h

/-- Settles O16: a step starts from a state that is not Flushing, and whatever fetching hands on, the operation or the session
call keeps the invariant. -/
theorem stepKeepsInvariant : Obligations.StepKeepsInvariant := by
  unfold Obligations.StepKeepsInvariant
  intro s t hinv hstep
  have hfetched := fetch_ready (hinv.ready (not_stalled_of_step_next hstep))
  unfold step at hstep
  cases hf : fetch s with
  | stuck f => rw [hf] at hstep; cases hstep
  | settled u => rw [hf] at hstep hfetched; cases hstep; exact State.Ready.inv hfetched
  | call c u => rw [hf] at hstep hfetched; exact sessionCall_inv hfetched hstep
  | instr i u =>
    rw [hf] at hstep hfetched
    exact exec_inv hfetched hstep

end Sys2Proof.Machine
end

section
/-! SUPPORT. What an operation can do, said once for the drawing and reading operations and once for the framer operations;
what each leaves unchanged, and what it does not look at: the history, and the content of a payload. -/

namespace Sys2Proof.Machine

/-! ## What an operation's body can do -/

/-- A rejected GLYPH writes nothing (R168). -/
theorem glyphBody_rejected {s : State} {x y code : Word16} (h : glyphRejects s.cfg x.toNat y.toNat code.toNat) (c : Colour) :
    glyphBody c x y code s = (some .invalidInput, s) := if_pos h

/-- An accepted GLYPH paints its cell (R168). -/
theorem glyphBody_accepted {s : State} {x y code : Word16} (h : ¬ glyphRejects s.cfg x.toNat y.toNat code.toNat)
    (c : Colour) :
    glyphBody c x y code s = (some (.ok .unit), s.paint c (glyphPoints s.cfg x.toNat y.toNat code.toNat)) := if_neg h

/-- A drawing or reading operation answers, and replaces the framebuffer at most, which only drawing does (R32, R36). -/
theorem instrBody_drawing {i : Instr} (h : isFramer i = false) (s : State) :
    ∃ r fb, instrBody i s = (some r, { s with fb := fb }) ∧ (drawsPixels i = false → fb = s.fb) := by
  cases i with
  | clear _ | point _ _ _ | line _ _ _ _ _ | circle _ _ _ _ | rect _ _ _ _ _ => exact ⟨_, _, rfl, nofun⟩
  | query _ _ | snapshot => exact ⟨_, _, rfl, fun _ => rfl⟩
  | glyph c x y code =>
    by_cases hr : glyphRejects s.cfg x.toNat y.toNat code.toNat
    · exact ⟨_, _, glyphBody_rejected hr c, fun _ => rfl⟩
    · exact ⟨_, _, glyphBody_accepted hr c, nofun⟩
  | sendCmd _ | sendData _ | sendChunked _ | flush => cases h

/-- A framer operation sends frames of one kind, which it takes from its operands, the configuration and the framebuffer. -/
theorem instrBody_framer {i : Instr} (h : isFramer i = true) :
    ∃ (kind : FrameKind) (frames : Config → Mem → List (List Byte)),
      instrBody i = fun s => withInterface (sendAll kind 0 (frames s.cfg s.fb)) s := by
  cases i with
  | sendCmd payload => exact ⟨.cmd, fun _ _ => [payload], rfl⟩
  | sendData payload => exact ⟨.data, fun _ _ => [payload], rfl⟩
  | sendChunked payload => exact ⟨.data, fun cfg _ => chunks cfg.chunk payload, rfl⟩
  | flush => exact ⟨.data, fun cfg fb => chunks cfg.chunk (Mem.bytes (fbSize cfg) fb), rfl⟩
  | clear _ | point _ _ _ | query _ _ | snapshot | line _ _ _ _ _ | circle _ _ _ _ | rect _ _ _ _ _ | glyph _ _ _ _ => cases h

/-- An operation's body returns no answer itself; issuing it does. -/
@[simp] theorem instrBody_replies (i : Instr) (s : State) : (instrBody i s).2.replies = s.replies := by
  cases h : isFramer i with
  | false => obtain ⟨r, fb, hb, -⟩ := instrBody_drawing h s; rw [hb]
  | true => obtain ⟨kind, frames, hb⟩ := instrBody_framer h; simp [hb]

/-- An operation's body ends without a result only where a framer operation's write never returned (R312). -/
theorem instrBody_none {i : Instr} {s : State} (h : (instrBody i s).1 = none) :
    isFramer i = true ∧ (instrBody i s).2.stalled = true := by
  cases hi : isFramer i with
  | false => obtain ⟨r, fb, hb, -⟩ := instrBody_drawing hi s; simp [hb] at h
  | true =>
    obtain ⟨kind, frames, hb⟩ := instrBody_framer hi
    rw [hb] at h ⊢
    exact ⟨rfl, withInterface_none_stalled h⟩

/-- A living block's operation: the body, and then its answer. -/
theorem exec_live {s : State} (h : s.live = true) (i : Instr) :
    exec i s = .next ((instrBody i s).2.answer (instrBody i s).1) := by rw [exec_eq_runOp, runOp_live h]

/-- An operation of a block that does not exist sets FAULT alone (R39, R284(c)). -/
theorem exec_dead {s : State} (h : s.live = false) (i : Instr) : exec i s = .next s.markFault := by
  rw [exec_eq_runOp, runOp_dead h]

/-- Settles O10: a body that ends with a result has it appended to the answers; one that ends without is a framer operation's
with a write that never returned. -/
theorem operationReturnsOneResult : Obligations.OperationReturnsOneResult := by
  unfold Obligations.OperationReturnsOneResult
  refine ⟨⟨fun _ => rfl, rfl, rfl, fun _ _ => rfl, rfl, rfl⟩, fun i s hl => ⟨_, exec_live hl i, ?_⟩⟩
  cases hr : (instrBody i s).1 with
  | some r => exact .inl ⟨r, by simp⟩
  | none => exact .inr ⟨by simp, (instrBody_none hr).2, (instrBody_none hr).1⟩

/-! ## What an operation leaves unchanged -/

/-- A frame never takes the stall back. -/
theorem sendFrame_stalled_of_stalled {s : State} (h : s.stalled = true) (kind : FrameKind) (p : List Byte) :
    (sendFrame kind p s).2.stalled = true := by
  cases hd : s.nextDraw with
  | returns o => rw [sendFrame_returns hd]; exact h
  | never => rw [sendFrame_never hd]

theorem withInterface_sendAll_stalled_of_stalled {s : State} (h : s.stalled = true) (kind : FrameKind) (k : Nat)
    (frames : List (List Byte)) : (withInterface (sendAll kind k frames) s).2.stalled = true := by
  unfold withInterface
  split
  · exact h
  · exact sendAll_keeps (P := fun t => t.stalled = true) kind frames
      (fun p _ _ ht => sendFrame_stalled_of_stalled ht kind p) k s h

/-- The framer never clears OVERSIZE (R41). -/
theorem withInterface_sendAll_oversize_of_oversize {s : State} (h : s.oversize = true) (kind : FrameKind) (k : Nat)
    (frames : List (List Byte)) : (withInterface (sendAll kind k frames) s).2.oversize = true := by
  unfold withInterface
  split
  · exact h
  · exact sendAll_keeps (P := fun t => t.oversize = true) kind frames
      (fun p _ t ht => by rw [sendFrame_oversize, ht, Bool.true_or]) k s h

/-- A frame only appends to TXLOG (R42). -/
theorem txLog_prefix_sendFrame (kind : FrameKind) (p : List Byte) (s : State) :
    s.txLog <+: (sendFrame kind p s).2.txLog := by
  rw [sendFrame_txLog]
  split
  · exact List.prefix_refl _
  · exact List.prefix_append ..

theorem txLog_prefix_withInterface_sendAll (kind : FrameKind) (k : Nat) (frames : List (List Byte)) (s : State) :
    s.txLog <+: (withInterface (sendAll kind k frames) s).2.txLog := by
  unfold withInterface
  split
  · exact List.prefix_refl _
  · exact sendAll_keeps (P := fun t => s.txLog <+: t.txLog) kind frames
      (fun p _ t ht => ht.trans (txLog_prefix_sendFrame kind p t)) k s (List.prefix_refl _)

/-- Settles O50: what every frame leaves as it was, the frames of one operation leave as it was. -/
theorem framerFrame : Obligations.FramerFrame := by
  unfold Obligations.FramerFrame
  intro i s t hi hl ht
  obtain ⟨kind, frames, hb⟩ := instrBody_framer hi
  rw [exec_live hl, hb] at ht
  cases ht
  exact ⟨by simp, by simp, by simp, by simp, by simp, by simp, by simp,
    fun h => by simpa using withInterface_sendAll_stalled_of_stalled h ..,
    fun h => by simpa using withInterface_sendAll_oversize_of_oversize h ..⟩

/-- Settles O51: the body replaces the framebuffer at most, and then the result is answered. -/
theorem drawingFrame : Obligations.DrawingFrame := by
  unfold Obligations.DrawingFrame
  intro i s t hi hl ht
  obtain ⟨r, fb, hb, hfb⟩ := instrBody_drawing hi s
  rw [exec_live hl, hb] at ht
  cases ht
  exact ⟨rfl, hfb⟩

/-! ## The content of a payload -/

/-- All of a TXLOG entry but the bytes of its payload. -/
def entryShape (e : TxEntry) : Nat × Byte × Nat × IoOutcome := (e.addr, e.pfx, e.payload.length, e.outcome)

/-- The states differ at most in the payload bytes that TXLOG lists. -/
structure State.SameButPayloads (t u : State) : Prop where
  rest : u = { t with txLog := u.txLog }
  shapes : t.txLog.map entryShape = u.txLog.map entryShape

theorem State.SameButPayloads.refl (s : State) : s.SameButPayloads s := ⟨rfl, rfl⟩

/-- The same answer to both. -/
theorem State.SameButPayloads.answer {t u : State} (h : t.SameButPayloads u) (r : Option Result) :
    (t.answer r).SameButPayloads (u.answer r) := by
  obtain ⟨rest, shapes⟩ := h
  generalize u.txLog = l at rest shapes
  subst rest
  cases r <;> exact ⟨rfl, shapes⟩

/-- Frames of one length, sent from such states, end in such states with one outcome (R105, R210). -/
theorem sendFrame_sameButPayloads {t u : State} {p q : List Byte} (h : t.SameButPayloads u) (hl : p.length = q.length)
    (kind : FrameKind) :
    (sendFrame kind p t).1 = (sendFrame kind q u).1 ∧ (sendFrame kind p t).2.SameButPayloads (sendFrame kind q u).2 := by
  obtain ⟨rest, shapes⟩ := h
  generalize u.txLog = l at rest shapes
  subst rest
  cases hd : t.nextDraw with
  | returns o =>
    rw [sendFrame_returns hd, sendFrame_returns (s := { t with txLog := l }) hd, hl]
    exact ⟨rfl, rfl, by simp [shapes, entryShape, frameEntry, hl]⟩
  | never =>
    rw [sendFrame_never hd, sendFrame_never (s := { t with txLog := l }) hd, hl]
    exact ⟨rfl, rfl, shapes⟩

/-- Lists of frames with the same lengths, sent from such states, end in such states with one result. -/
theorem sendAll_sameButPayloads {t u : State} {fs gs : List (List Byte)} (h : t.SameButPayloads u)
    (hl : fs.map List.length = gs.map List.length) (kind : FrameKind) (k : Nat) :
    (sendAll kind k fs t).1 = (sendAll kind k gs u).1 ∧ (sendAll kind k fs t).2.SameButPayloads (sendAll kind k gs u).2 := by
  induction fs generalizing gs t u k with
  | nil =>
    obtain rfl : gs = [] := by simpa using hl.symm
    exact ⟨rfl, h⟩
  | cons p fs ih =>
    cases gs with
    | nil => simp at hl
    | cons q gs =>
      simp only [List.map_cons, List.cons.injEq] at hl
      obtain ⟨hout, hstate⟩ := sendFrame_sameButPayloads h hl.1 kind
      unfold sendAll
      rw [← hout]
      split
      · exact ⟨rfl, hstate⟩
      · exact ⟨rfl, hstate⟩
      · exact ih hstate hl.2 (k + 1)

theorem withInterface_sameButPayloads {fs gs : List (List Byte)} (hl : fs.map List.length = gs.map List.length)
    (kind : FrameKind) (s : State) :
    (withInterface (sendAll kind 0 fs) s).1 = (withInterface (sendAll kind 0 gs) s).1 ∧
    (withInterface (sendAll kind 0 fs) s).2.SameButPayloads (withInterface (sendAll kind 0 gs) s).2 := by
  unfold withInterface
  split
  · exact ⟨rfl, .refl s⟩
  · exact sendAll_sameButPayloads (.refl s) hl kind 0

/-- How a payload is cut depends on its length alone (R213). -/
theorem chunks_lengths_congr {p q : List Byte} (h : p.length = q.length) (c : Nat) :
    (chunks c p).map List.length = (chunks c q).map List.length := by
  simp [chunks, Function.comp_def, h]

/-- The payload operations' bodies, on two payloads of one length. -/
theorem instrBody_sameButPayloads {p q : List Byte} (h : p.length = q.length) {f : List Byte → Instr}
    (hf : f = .sendCmd ∨ f = .sendData ∨ f = .sendChunked) (s : State) :
    (instrBody (f p) s).1 = (instrBody (f q) s).1 ∧ (instrBody (f p) s).2.SameButPayloads (instrBody (f q) s).2 := by
  have one : [p].map List.length = [q].map List.length := by simp [h]
  rcases hf with rfl | rfl | rfl
  · exact withInterface_sameButPayloads one .cmd s
  · exact withInterface_sameButPayloads one .data s
  · exact withInterface_sameButPayloads (chunks_lengths_congr h _) .data s

/-- Settles O52: the two runs send frames of the same lengths, draw the same outcomes and return the same result; where no
block lives they do the same. -/
theorem framerIgnoresPayloadContent : Obligations.FramerIgnoresPayloadContent := by
  unfold Obligations.FramerIgnoresPayloadContent
  intro p q s hlen f hf
  obtain ⟨hout, hstate⟩ := instrBody_sameButPayloads hlen hf s
  cases hl : s.live with
  | false => exact ⟨_, _, exec_dead hl _, exec_dead hl _, rfl, rfl⟩
  | true =>
    obtain ⟨rest, shapes⟩ := hstate.answer (instrBody (f p) s).1
    exact ⟨_, _, exec_live hl _, hout ▸ exec_live hl _, rest, shapes⟩

/-! ## The history -/

/-- The same state after a longer history: older TXLOG entries and older answers. -/
def State.withHistory (l : List TxEntry) (m : List Reply) (s : State) : State :=
  { s with txLog := l ++ s.txLog, replies := m ++ s.replies }

@[simp] theorem withHistory_cfg (l : List TxEntry) (m : List Reply) (s : State) : (s.withHistory l m).cfg = s.cfg := rfl

/-- The body does the same whatever the history before it. -/
def IgnoresHistory (body : State → Option Result × State) : Prop :=
  ∀ s l m, body (s.withHistory l m) = ((body s).1, (body s).2.withHistory l m)

theorem sendFrame_withHistory (kind : FrameKind) (p : List Byte) (s : State) (l : List TxEntry) (m : List Reply) :
    sendFrame kind p (s.withHistory l m) = ((sendFrame kind p s).1, (sendFrame kind p s).2.withHistory l m) := by
  cases hd : s.nextDraw with
  | returns o =>
    rw [sendFrame_returns hd, sendFrame_returns (s := s.withHistory l m) hd]
    simp [State.withHistory, State.advanceDraw]
  | never => rw [sendFrame_never hd, sendFrame_never (s := s.withHistory l m) hd]; rfl

theorem sendAll_ignoresHistory (kind : FrameKind) (k : Nat) (frames : List (List Byte)) :
    IgnoresHistory (sendAll kind k frames) := by
  intro s l m
  induction frames generalizing k s with
  | nil => rfl
  | cons p rest ih =>
    unfold sendAll
    rw [sendFrame_withHistory]
    dsimp only
    split
    · rfl
    · rfl
    · exact ih (k + 1) _

theorem ignoresHistory_frames (kind : FrameKind) (frames : Config → Mem → List (List Byte)) :
    IgnoresHistory fun s => withInterface (sendAll kind 0 (frames s.cfg s.fb)) s := by
  intro s l m
  dsimp only
  cases hi : s.cfg.iface with
  | none => rw [withInterface_none hi, withInterface_none (s := s.withHistory l m) hi]
  | bus =>
    rw [withInterface_bus hi, withInterface_bus (s := s.withHistory l m) hi]
    exact sendAll_ignoresHistory kind 0 _ s l m

theorem ignoresHistory_drawing {i : Instr} (h : isFramer i = false) : IgnoresHistory (instrBody i) := by
  intro s l m
  cases i with
  | clear _ | point _ _ _ | query _ _ | snapshot | line _ _ _ _ _ | circle _ _ _ _ | rect _ _ _ _ _ => rfl
  | glyph c x y code =>
    by_cases hr : glyphRejects s.cfg x.toNat y.toNat code.toNat
    · simp only [instrBody, glyphBody_rejected hr, glyphBody_rejected (s := s.withHistory l m) hr]
    · simp only [instrBody, glyphBody_accepted hr, glyphBody_accepted (s := s.withHistory l m) hr]; rfl
  | sendCmd _ | sendData _ | sendChunked _ | flush => cases h

theorem ignoresHistory_instrBody (i : Instr) : IgnoresHistory (instrBody i) := by
  cases h : isFramer i with
  | false => exact ignoresHistory_drawing h
  | true =>
    obtain ⟨kind, frames, hb⟩ := instrBody_framer h
    rw [hb]
    exact ignoresHistory_frames kind frames

/-- Answering appends after the history. -/
theorem answer_withHistory (r : Option Result) (s : State) (l : List TxEntry) (m : List Reply) :
    (s.withHistory l m).answer r = (s.answer r).withHistory l m := by
  cases r with
  | none => rfl
  | some r => simp [State.reply, State.withHistory]

theorem IgnoresHistory.issue {body : State → Option Result × State} (hb : IgnoresHistory body) :
    IgnoresHistory (Machine.issue body) := by
  intro s l m
  cases hl : s.live with
  | false => rw [issue_dead hl, issue_dead (s := s.withHistory l m) hl]; rfl
  | true => rw [issue_live hl, issue_live (s := s.withHistory l m) hl, hb, answer_withHistory]

/-- Settles O53: any history is a history put before the empty one, and no operation looks at it. -/
theorem historyIsNeverRead : Obligations.HistoryIsNeverRead := by
  unfold Obligations.HistoryIsNeverRead
  intro i s
  have blind := (ignoresHistory_instrBody i).issue
  refine ⟨_, exec_eq_runOp .., fun l m => ?_⟩
  have start : ({ s with txLog := l, replies := m } : State) =
      State.withHistory l m { s with txLog := [], replies := [] } := by simp [State.withHistory]
  rw [start, exec_eq_runOp, runOp, blind]
  rfl

end Sys2Proof.Machine
end

section
/-! SUPPORT. The decoder reads back what the encoder wrote, whatever follows it (30_encoding.md R91 to R95). -/

namespace Sys2Proof

/-! ## The header word -/

@[simp] theorem opcBits_headerWord (op : Opcode) (c : BitVec 1) : opcBits (headerWord op c) = op.toByte :=
  BitVec.extractLsb'_append_eq_right

@[simp] theorem colourBit_headerWord (op : Opcode) (c : BitVec 1) : colourBit (headerWord op c) = c :=
  (BitVec.extractLsb'_append_eq_of_le (by omega)).trans BitVec.extractLsb'_append_eq_right

@[simp] theorem rsvBits_headerWord (op : Opcode) (c : BitVec 1) : rsvBits (headerWord op c) = 0 :=
  (BitVec.extractLsb'_append_eq_of_le (by omega)).trans BitVec.extractLsb'_append_eq_left

/-- The opcode map read from both sides (R94). -/
@[simp] theorem ofByte_toByte (op : Opcode) : Opcode.ofByte op.toByte = some op := by cases op <;> rfl

@[simp] theorem ofBit_toBit (c : Colour) : Colour.ofBit c.toBit = c := by cases c <;> rfl

/-- A legal header whose words have all arrived gives its opcode's instruction (R94, R97). -/
theorem decode_headerWord {op : Opcode} {c : Colour} {operands rest : List Word16}
    (words : op.totalWords (operands ++ rest) = some (operands.length + 1)) (colour : c = .clr ∨ op.usesColour = true)
    (pad : padByteBad op (operands ++ rest) = false) :
    decode (headerWord op c.toBit :: operands ++ rest) = .instr (op.build c (operands ++ rest)) (operands.length + 1) := by
  have arrived : ¬ (operands ++ rest).length + 1 < operands.length + 1 := by simp
  have hc : ¬ (c.toBit = 1 ∧ op.usesColour = false) := by
    rintro ⟨hset, hunused⟩
    rcases colour with rfl | hused
    · exact absurd hset (by decide)
    · simp [hused] at hunused
  simp only [decode, List.cons_append, opcBits_headerWord, ofByte_toByte, words, arrived, rsvBits_headerWord,
    colourBit_headerWord, ofBit_toBit, hc, pad, if_false, ne_eq, not_true, Bool.false_eq_true]

/-- A descriptor without a payload is read back: its operands are the words after the header (R92). -/
theorem decode_operands {op : Opcode} {c : Colour} {operands : List Word16} (rest : List Word16)
    (words : op.totalWords (operands ++ rest) = some (operands.length + 1)) (colour : c = .clr ∨ op.usesColour = true)
    (fixed : op.hasPayload = false) :
    decode (headerWord op c.toBit :: operands ++ rest) = .instr (op.build c (operands ++ rest)) (operands.length + 1) :=
  decode_headerWord words colour (by simp [padByteBad, fixed])

/-! ## Payloads -/

@[simp] theorem loByte_wordOf (hi lo : Byte) : loByte (wordOf hi lo) = lo := BitVec.extractLsb'_append_eq_right

@[simp] theorem hiByte_wordOf (hi lo : Byte) : hiByte (wordOf hi lo) = hi := BitVec.extractLsb'_append_eq_left

@[simp] theorem wordOf_hiByte_loByte (w : Word16) : wordOf (hiByte w) (loByte w) = w :=
  BitVec.extractLsb'_append_extractLsb'

/-- Packing and unpacking gives the bytes back, with the pad byte where their number is odd (R93). -/
theorem unpackWords_packBytes (s : List Byte) : unpackWords (packBytes s) = s ++ List.replicate (s.length % 2) 0 := by
  induction s using packBytes.induct with
  | case1 => rfl
  | case2 b => simp [packBytes, unpackWords]
  | case3 a b bs ih => simp [packBytes, unpackWords, ih, Nat.add_mod_right, Nat.add_assoc]

section
variable {s : List Byte} (hs : payloadFits s = true) (rest : List Word16)
include hs

/-- The length word holds the payload's length (R93). -/
theorem payloadLen_payloadOperands : payloadLen (payloadOperands s ++ rest) = s.length := by
  simp only [payloadFits, decide_eq_true_eq] at hs
  simp only [payloadLen, payloadOperands, List.cons_append, List.headD_cons, BitVec.toNat_ofNat]
  omega

/-- The payload words end where the packed bytes end, whatever follows. -/
theorem payloadWords_payloadOperands : payloadWords (payloadOperands s ++ rest) = packBytes s := by
  rw [payloadWords, payloadLen_payloadOperands hs, ← Laws.packBytes_length]
  simp [payloadOperands]

/-- The payload is read back without its pad byte (R93, R99). -/
theorem payloadOf_payloadOperands : payloadOf (payloadOperands s ++ rest) = s := by
  rw [payloadOf, payloadWords_payloadOperands hs, payloadLen_payloadOperands hs, unpackWords_packBytes]
  simp

/-- The pad byte the encoder writes is `0x00`. -/
theorem padByteBad_payloadOperands (op : Opcode) : padByteBad op (payloadOperands s ++ rest) = false := by
  rw [padByteBad, payloadWords_payloadOperands hs, payloadLen_payloadOperands hs, unpackWords_packBytes]
  by_cases hodd : s.length % 2 = 1
  · simp [hodd]
  · simp [hodd]

/-- A payload descriptor is read back (R93, R95). -/
theorem decode_payload {op : Opcode} (words : op.totalWords (payloadOperands s ++ rest) =
      some (payloadDescriptorWords (payloadLen (payloadOperands s ++ rest)))) :
    decode (headerWord op 0 :: payloadOperands s ++ rest) =
      .instr (op.build .clr (payloadOperands s ++ rest)) ((payloadOperands s).length + 1) := by
  rw [payloadLen_payloadOperands hs, ← Laws.payloadOperands_length] at words
  exact decode_headerWord (c := .clr) words (.inl rfl) (padByteBad_payloadOperands hs rest op)

end

/-- The decoder reads back the descriptor of a well-formed instruction, whatever words follow (R90 to R95). -/
theorem decode_encode_append {i : Instr} (h : i.wellFormed = true) (rest : List Word16) :
    decode (encode i ++ rest) = .instr i (encode i).length := by
  cases i with
  | clear c => exact decode_operands (operands := []) rest rfl (.inr rfl) rfl
  | point c x y => exact decode_operands (operands := [x, y]) rest rfl (.inr rfl) rfl
  | query x y => exact decode_operands (c := .clr) (operands := [x, y]) rest rfl (.inl rfl) rfl
  | snapshot => exact decode_operands (c := .clr) (operands := []) rest rfl (.inl rfl) rfl
  | line c x0 y0 x1 y1 => exact decode_operands (operands := [x0, y0, x1, y1]) rest rfl (.inr rfl) rfl
  | circle c x0 y0 r => exact decode_operands (operands := [x0, y0, r]) rest rfl (.inr rfl) rfl
  | rect c x0 y0 x1 y1 => exact decode_operands (operands := [x0, y0, x1, y1]) rest rfl (.inr rfl) rfl
  | glyph c x y code => exact decode_operands (operands := [x, y, code]) rest rfl (.inr rfl) rfl
  | sendCmd s => simpa [encode, Opcode.build, payloadOf_payloadOperands h] using decode_payload (op := .sendCmd) h rest rfl
  | sendData s => simpa [encode, Opcode.build, payloadOf_payloadOperands h] using decode_payload (op := .sendData) h rest rfl
  | sendChunked s =>
    simpa [encode, Opcode.build, payloadOf_payloadOperands h] using decode_payload (op := .sendChunked) h rest rfl
  | flush => exact decode_operands (c := .clr) (operands := []) rest rfl (.inl rfl) rfl

end Sys2Proof
end

section
/-! SUPPORT. The descriptor port, and what a step fetches from it (30_encoding.md R95, R96; 10_state.md R37). -/

namespace Sys2Proof.Machine

/-! ## The port -/

theorem leadingWords_map_append (ws : List Word16) (q : List HostInput) :
    leadingWords (ws.map .word ++ q) = ws ++ leadingWords q := by
  induction ws with
  | nil => rfl
  | cons w ws ih => simp [leadingWords, ih]

theorem leadingWords_map (ws : List Word16) : leadingWords (ws.map .word) = ws := by
  simpa [leadingWords] using leadingWords_map_append ws []

theorem leadingBytes_map_append (bs : List Byte) (q : List HostInput) :
    leadingBytes (bs.map .byte ++ q) = bs ++ leadingBytes q := by
  induction bs with
  | nil => rfl
  | cons b bs ih => simp [leadingBytes, ih]

theorem leadingBytes_map (bs : List Byte) : leadingBytes (bs.map .byte) = bs := by
  simpa [leadingBytes] using leadingBytes_map_append bs []

/-- A word-wide port's transfers are the words themselves (R96). -/
theorem sendWords_wordWide (ws : List Word16) : sendWords .wordWide ws = ws.map .word := by
  induction ws with
  | nil => rfl
  | cons w ws ih => rw [sendWords, List.flatMap_cons, ← sendWords, ih]; rfl

/-- A byte-wide port's transfers are the words' bytes, the low byte of each first (R96). -/
theorem sendWords_byteWide (ws : List Word16) : sendWords .byteWide ws = (unpackWords ws).map .byte := by
  induction ws with
  | nil => rfl
  | cons w ws ih => rw [sendWords, List.flatMap_cons, ← sendWords, ih]; rfl

theorem assembleWords_unpackWords_append (ws : List Word16) (bs : List Byte) :
    assembleWords (unpackWords ws ++ bs) = ws ++ assembleWords bs := by
  induction ws with
  | nil => rfl
  | cons w ws ih => simp [unpackWords, assembleWords, ih]

theorem unpackWords_length (ws : List Word16) : (unpackWords ws).length = 2 * ws.length := by
  induction ws with
  | nil => rfl
  | cons w ws ih => simp only [unpackWords, List.length_cons, ih]; omega

/-- Both ports deliver the words sent, and then whatever follows them (R96). -/
theorem portWords_sendWords_append (p : DescPort) (ws : List Word16) (q : List HostInput) :
    portWords p (sendWords p ws ++ q) = ws ++ portWords p q := by
  cases p with
  | wordWide => rw [sendWords_wordWide]; exact leadingWords_map_append ws q
  | byteWide =>
    simp only [sendWords_byteWide, portWords, leadingBytes_map_append, assembleWords_unpackWords_append]

/-- So many transfers carry the words (R96). -/
theorem sendWords_length (p : DescPort) (ws : List Word16) : (sendWords p ws).length = transfersOf p ws.length := by
  cases p with
  | wordWide => simp [sendWords_wordWide, transfersOf]
  | byteWide => simp [sendWords_byteWide, unpackWords_length, transfersOf]

/-- Where words stand at the port, the front of the pending actions is a transfer. -/
theorem transfer_of_portWords_ne_nil {p : DescPort} {q : List HostInput} (h : portWords p q ≠ []) :
    ∃ a r, q = a :: r ∧ isTransfer p a = true := by
  cases q with
  | nil => cases p <;> exact absurd rfl h
  | cons a r =>
    cases p with
    | wordWide =>
      cases a with
      | word w => exact ⟨_, _, rfl, rfl⟩
      | byte _ | call _ | overlap => exact absurd rfl h
    | byteWide =>
      cases a with
      | byte b => exact ⟨_, _, rfl, rfl⟩
      | word _ | call _ | overlap => exact absurd rfl h

/-- A word-wide port's transfers are words. -/
theorem exists_words_of_transfers {q : List HostInput} (h : ∀ a ∈ q, isTransfer .wordWide a = true) :
    ∃ ws : List Word16, q = ws.map .word := by
  induction q with
  | nil => exact ⟨[], rfl⟩
  | cons a q ih =>
    obtain ⟨ha, hq⟩ := List.forall_mem_cons.1 h
    obtain ⟨ws, rfl⟩ := ih hq
    cases a with
    | word w => exact ⟨w :: ws, rfl⟩
    | byte _ | call _ | overlap => cases ha

/-- A byte-wide port's transfers are bytes. -/
theorem exists_bytes_of_transfers {q : List HostInput} (h : ∀ a ∈ q, isTransfer .byteWide a = true) :
    ∃ bs : List Byte, q = bs.map .byte := by
  induction q with
  | nil => exact ⟨[], rfl⟩
  | cons a q ih =>
    obtain ⟨ha, hq⟩ := List.forall_mem_cons.1 h
    obtain ⟨bs, rfl⟩ := ih hq
    cases a with
    | byte b => exact ⟨b :: bs, rfl⟩
    | word _ | call _ | overlap => cases ha

theorem leadingWords_eq_nil {q : List HostInput} (h : ∀ a ∈ q.head?, isTransfer .wordWide a = false) :
    leadingWords q = [] := by
  cases q with
  | nil => rfl
  | cons a r =>
    cases a with
    | word w => cases h _ rfl
    | byte _ | call _ | overlap => rfl

theorem leadingBytes_eq_nil {q : List HostInput} (h : ∀ a ∈ q.head?, isTransfer .byteWide a = false) :
    leadingBytes q = [] := by
  cases q with
  | nil => rfl
  | cons a r =>
    cases a with
    | byte b => cases h _ rfl
    | word _ | call _ | overlap => rfl

/-- At the port stand the transfers up to the first action that is none. -/
theorem port_append {p : DescPort} {cut q : List HostInput} (hcut : ∀ a ∈ cut, isTransfer p a = true)
    (hq : ∀ a ∈ q.head?, isTransfer p a = false) :
    portWords p (cut ++ q) = portWords p cut ∧ portTransfers p (cut ++ q) = cut.length := by
  cases p with
  | wordWide =>
    obtain ⟨ws, rfl⟩ := exists_words_of_transfers hcut
    simp [portWords, portTransfers, leadingWords_map_append, leadingWords_map, leadingWords_eq_nil hq]
  | byteWide =>
    obtain ⟨bs, rfl⟩ := exists_bytes_of_transfers hcut
    simp [portWords, portTransfers, leadingBytes_map_append, leadingBytes_map, leadingBytes_eq_nil hq]

/-! ## Fetching -/

/-- A stalled machine faults (R312). -/
theorem step_stalled {s : State} (h : s.stalled = true) : step s = .fault .transportNeverReturns := by
  simp [step, fetch, h]

section
variable {s : State} (hs : s.stalled = false)
include hs

/-- With nothing pending the block waits (R301). -/
theorem step_idle (h : s.pending = []) : step s = .next s := by simp [step, fetch, hs, h]

/-- A session call at the front is run (R37). -/
theorem step_call {c : SessionCall} {rest : List HostInput} (h : s.pending = .call c :: rest) :
    step s = sessionCall c { s with pending := rest } := by simp [step, fetch, hs, h, State.take]

/-- An overlapping use at the front sets FAULT (R284(e)). -/
theorem step_overlap {rest : List HostInput} (h : s.pending = .overlap :: rest) :
    step s = .next { s with pending := rest, fault := true } := by
  simp [step, fetch, hs, h, State.take, State.markFault]

/-- A transfer at the front, of the port's width or not, is looked at as a descriptor's. -/
theorem fetch_transfer {p : DescPort} {a : HostInput} {rest : List HostInput} (h : s.pending = a :: rest)
    (ha : isTransfer p a = true) : fetch s = fetchDescriptor s := by
  cases a with
  | word _ | byte _ => simp [fetch, hs, h]
  | call _ | overlap => cases p <;> cases ha

/-- The words at the port are an instruction's: the step runs it, with exactly its transfers taken (R37, R95). -/
theorem step_instr {i : Instr} {n : Nat} (h : decode (portWords s.cfg.descPort s.pending) = .instr i n) :
    step s = exec i (s.take (transfersOf s.cfg.descPort n)) := by
  have hne : portWords s.cfg.descPort s.pending ≠ [] := fun hnil => by simp [hnil, decode] at h
  obtain ⟨a, rest, hp, ha⟩ := transfer_of_portWords_ne_nil hne
  rw [step, fetch_transfer hs hp ha, fetchDescriptor, h]

/-- The words at the port are part of a descriptor: the step only settles what becomes of them. -/
theorem step_incomplete {p : DescPort} {a : HostInput} {rest : List HostInput} (h : s.pending = a :: rest)
    (ha : isTransfer p a = true) (hd : decode (portWords s.cfg.descPort s.pending) = .incomplete) :
    step s = .next (awaitWords s) := by rw [step, fetch_transfer hs h ha, fetchDescriptor, hd]

end

/-- Where nothing but transfers is pending, the block waits for the rest of the descriptor. -/
theorem awaitWords_transfers {s : State} (h : ∀ a ∈ s.pending, isTransfer s.cfg.descPort a = true) : awaitWords s = s := by
  have hport := port_append (q := []) h nofun
  rw [List.append_nil] at hport
  exact if_pos hport.2

/-- Transfers that another action cuts off are dropped, or that action where there are none, and FAULT is set. -/
theorem awaitWords_cut {s : State} {cut rest : List HostInput} {a : HostInput} (h : s.pending = cut ++ a :: rest)
    (hcut : ∀ b ∈ cut, isTransfer s.cfg.descPort b = true) (ha : isTransfer s.cfg.descPort a = false) :
    awaitWords s = (s.take (max 1 cut.length)).markFault := by
  have hport : portTransfers s.cfg.descPort s.pending = cut.length := h ▸ (port_append hcut (by simpa using ha)).2
  rw [awaitWords, hport, if_neg (by simp [h])]

section
variable {s : State} (hs : s.stalled = false)
include hs

/-- A descriptor cut off by an action that is no transfer of the port: its transfers are dropped and FAULT is set. -/
theorem step_cut {p : DescPort} {cut rest q : List HostInput} {a b : HostInput} (h : s.pending = cut ++ a :: rest)
    (hfront : s.pending = b :: q) (hb : isTransfer p b = true) (hcut : ∀ c ∈ cut, isTransfer s.cfg.descPort c = true)
    (ha : isTransfer s.cfg.descPort a = false) (hd : decode (portWords s.cfg.descPort cut) = .incomplete) :
    step s = .next (s.take (max 1 cut.length)).markFault := by
  have hwords : portWords s.cfg.descPort s.pending = portWords s.cfg.descPort cut :=
    h ▸ (port_append hcut (by simpa using ha)).1
  rw [step_incomplete hs hfront hb (by rw [hwords, hd]), awaitWords_cut h hcut ha]

/-- A transfer of the other port's width is dropped and FAULT is set. -/
theorem step_wrongWidth {p : DescPort} {rest : List HostInput} {a : HostInput} (h : s.pending = a :: rest)
    (hp : isTransfer p a = true) (ha : isTransfer s.cfg.descPort a = false) :
    step s = .next { s with pending := rest, fault := true } := by
  rw [step_cut (cut := []) hs h h hp nofun ha (by cases s.cfg.descPort <;> rfl)]
  simp [State.take, State.markFault, h]

end

/-- Settles O7: the descriptor at the port is what the step fetches. -/
theorem stepRunsTheDecodedInstruction : Obligations.StepRunsTheDecodedInstruction := by
  unfold Obligations.StepRunsTheDecodedInstruction
  exact fun s i n hs h => step_instr hs h

/-- Settles O8: the port delivers the encoding's words, and the decoder reads the instruction back from them. -/
theorem stepRunsTheInstructionSent : Obligations.StepRunsTheInstructionSent := by
  unfold Obligations.StepRunsTheInstructionSent
  intro s i rest hs hi hp
  have hd : decode (portWords s.cfg.descPort s.pending) = .instr i (encode i).length := by
    rw [hp, portWords_sendWords_append]
    exact decode_encode_append hi _
  rw [step_instr hs hd, State.take, hp, ← sendWords_length, List.drop_left]

/-- Settles O9: one clause per kind of action at the front of the pending ones. -/
theorem stepTakesTheHostsAction : Obligations.StepTakesTheHostsAction := by
  unfold Obligations.StepTakesTheHostsAction
  refine ⟨fun s c rest hs hp => step_call hs hp, fun s hs hp => step_idle hs hp, fun s hs => step_stalled hs, ?waiting, ?cutOff,
    ?wrongWidth⟩
  case waiting =>
    intro s hs hall hd
    cases hp : s.pending with
    | nil => exact step_idle hs hp
    | cons a rest => rw [step_incomplete hs hp (hall a (by simp [hp])) hd, awaitWords_transfers hall]
  case cutOff =>
    intro s cut a rest hs hp hne hcut ha hd
    obtain ⟨b, cut, rfl⟩ := List.exists_cons_of_ne_nil hne
    rw [step_cut hs hp hp (hcut b (by simp)) hcut ha hd]
    simp [State.take, State.markFault, hp]
  case wrongWidth =>
    rintro s rest hs (⟨hport, w, hp⟩ | ⟨hport, b, hp⟩)
    · exact step_wrongWidth (p := .wordWide) hs hp rfl (by rw [hport]; rfl)
    · exact step_wrongWidth (p := .byteWide) hs hp rfl (by rw [hport]; rfl)

end Sys2Proof.Machine
end

section
/-! SUPPORT. What a step of a constructed block keeps (10_state.md R30, R39, R41, R42). `State.Evolves` says what every part
of such a step does to the block, drawing included; `State.EvolvesUndrawn` adds that the framebuffer is as it was, as every
part but a drawing operation leaves it. -/

namespace Sys2Proof.Machine

/-! ## How a block evolves -/

/-- What happens to a constructed block: its configuration stays, the marks stay set, a destroyed block stays so and is sent
nothing, and TXLOG grows at its end. -/
structure State.Evolves (s t : State) : Prop where
  cfg : t.cfg = s.cfg
  fault : s.fault = true → t.fault = true
  oversize : s.oversize = true → t.oversize = true
  live : s.live = false → t.live = false
  txLog : s.txLog <+: t.txLog
  silent : s.live = false → t.txLog = s.txLog

/-- The same, with the framebuffer as it was. -/
structure State.EvolvesUndrawn (s t : State) : Prop extends s.Evolves t where
  fb : t.fb = s.fb

theorem State.EvolvesUndrawn.of_eq {s t : State} (cfg : t.cfg = s.cfg) (fb : t.fb = s.fb) (live : t.live = s.live)
    (fault : s.fault = true → t.fault = true) (oversize : t.oversize = s.oversize) (txLog : t.txLog = s.txLog) :
    s.EvolvesUndrawn t :=
  ⟨⟨cfg, fault, fun h => oversize.trans h, fun h => live.trans h, by rw [txLog], fun _ => txLog⟩, fb⟩

theorem State.EvolvesUndrawn.refl (s : State) : s.EvolvesUndrawn s := .of_eq rfl rfl rfl id rfl rfl

theorem State.Evolves.trans {s t u : State} (h : s.Evolves t) (h' : t.Evolves u) : s.Evolves u where
  cfg := h'.cfg.trans h.cfg
  fault := h'.fault ∘ h.fault
  oversize := h'.oversize ∘ h.oversize
  live := h'.live ∘ h.live
  txLog := h.txLog.trans h'.txLog
  silent hl := (h'.silent (h.live hl)).trans (h.silent hl)

theorem State.EvolvesUndrawn.trans {s t u : State} (h : s.EvolvesUndrawn t) (h' : t.EvolvesUndrawn u) :
    s.EvolvesUndrawn u := ⟨h.toEvolves.trans h'.toEvolves, h'.fb.trans h.fb⟩

section
variable {s t : State} (h : s.EvolvesUndrawn t)
include h

theorem State.EvolvesUndrawn.markFault : s.EvolvesUndrawn t.markFault := h.trans (.of_eq rfl rfl rfl (fun _ => rfl) rfl rfl)

theorem State.EvolvesUndrawn.hold : s.EvolvesUndrawn t.hold := h.trans (.of_eq rfl rfl rfl id rfl rfl)

theorem State.EvolvesUndrawn.returns (r : SessionResult) : s.EvolvesUndrawn (t.returns r) :=
  h.trans (.of_eq rfl rfl rfl id rfl rfl)

theorem State.EvolvesUndrawn.enter (x : SessionState) : s.EvolvesUndrawn { t with session := x } :=
  h.trans (.of_eq rfl rfl rfl id rfl rfl)

theorem State.EvolvesUndrawn.shut : s.EvolvesUndrawn t.shut :=
  h.trans ⟨⟨rfl, id, id, fun _ => rfl, List.prefix_refl _, fun _ => rfl⟩, rfl⟩

theorem State.EvolvesUndrawn.resetControl (c : ResetCall) : s.EvolvesUndrawn (resetControl c t).2 :=
  h.trans (.of_eq (by simp) (by simp) (by simp) (by simp) (by simp) (by simp))

theorem State.EvolvesUndrawn.setDirection (due : Bool) : s.EvolvesUndrawn (setDirection due t).2 :=
  h.trans (.of_eq (by simp) (by simp) (by simp) (by simp) (by simp) (by simp))

theorem State.EvolvesUndrawn.answer (r : Option Result) : s.EvolvesUndrawn (t.answer r) :=
  h.trans (.of_eq (by simp) (by simp) (by simp) (by simp) (by simp) (by simp))

end

/-! ## Operations -/

/-- A framer operation on a living block. -/
theorem evolvesUndrawn_framer {i : Instr} {s : State} (hi : isFramer i = true) (hl : s.live = true) :
    s.EvolvesUndrawn (instrBody i s).2 := by
  obtain ⟨kind, frames, hb⟩ := instrBody_framer hi
  rw [hb]
  exact
    { cfg := by simp
      fault := by simp
      oversize := fun h => withInterface_sendAll_oversize_of_oversize h ..
      live := by simp [hl]
      txLog := txLog_prefix_withInterface_sendAll ..
      silent := by simp [hl]
      fb := by simp }

/-- A framer operation, issued to a block that lives or not. -/
theorem State.EvolvesUndrawn.issueFramer {s t : State} (h : s.EvolvesUndrawn t) {i : Instr} (hi : isFramer i = true) :
    s.EvolvesUndrawn (issue (instrBody i) t).2 := by
  cases hl : t.live with
  | false => rw [issue_dead hl]; exact h.markFault
  | true => rw [issue_live hl]; exact (h.trans (evolvesUndrawn_framer hi hl)).answer _

/-- What any operation does to the block; only drawing on a living block writes the framebuffer, and only a framer operation
on a living block writes TXLOG. -/
theorem evolves_exec {i : Instr} {s t : State} (h : exec i s = .next t) :
    s.Evolves t ∧ (t.fb = s.fb ∨ drawsPixels i = true ∧ s.live = true) ∧
      (t.txLog = s.txLog ∨ isFramer i = true ∧ s.live = true) := by
  cases hl : s.live with
  | false =>
    rw [exec_dead hl] at h
    cases h
    exact ⟨(State.EvolvesUndrawn.refl s).markFault.toEvolves, .inl rfl, .inl rfl⟩
  | true =>
    rw [exec_live hl] at h
    cases h
    cases hi : isFramer i with
    | true =>
      have hu := (evolvesUndrawn_framer hi hl).answer (instrBody i s).1
      exact ⟨hu.toEvolves, .inl hu.fb, .inr ⟨rfl, rfl⟩⟩
    | false =>
      obtain ⟨r, fb, hb, hfb⟩ := instrBody_drawing hi s
      rw [hb]
      refine ⟨⟨rfl, id, id, id, List.prefix_refl _, fun _ => rfl⟩, ?_, .inl rfl⟩
      cases hd : drawsPixels i with
      | false => exact .inl (hfb hd)
      | true => exact .inr ⟨rfl, rfl⟩

/-! ## Session calls -/

section
variable {s t : State} (h : s.EvolvesUndrawn t)
include h

theorem State.EvolvesUndrawn.setupBringUp : s.EvolvesUndrawn (setupBringUp t) := by
  have hsent : s.EvolvesUndrawn (issue (sendCmdBody t.cfg.bringUpSeq) t).2 := h.issueFramer (i := .sendCmd _) rfl
  unfold Machine.setupBringUp
  dsimp only
  split
  · exact hsent
  · exact (hsent.enter _).returns _
  · exact hsent.returns _

theorem State.EvolvesUndrawn.setupRelease : s.EvolvesUndrawn (setupRelease t) := by
  have hhigh := h.hold.resetControl (.setValue true)
  unfold Machine.setupRelease
  dsimp only
  split
  · exact hhigh
  · exact hhigh.returns _
  · exact hhigh.setupBringUp

theorem State.EvolvesUndrawn.setupPulse : s.EvolvesUndrawn (setupPulse t) := by
  have hlow := h.resetControl (.setValue false)
  unfold Machine.setupPulse
  dsimp only
  split
  · exact hlow
  · exact hlow.returns _
  · exact hlow.setupRelease

theorem State.EvolvesUndrawn.setupCall : s.EvolvesUndrawn (setupCall t) := by
  have hdir := h.setDirection t.cfg.dirInSetup
  unfold Machine.setupCall Machine.setupDirection
  dsimp only
  split
  · split
    · exact hdir
    · exact hdir.returns _
    · exact hdir.setupPulse
  · exact h.markFault

theorem State.EvolvesUndrawn.drawCall : s.EvolvesUndrawn (drawCall t) := by
  have hsent : s.EvolvesUndrawn (issue flushBody { t with session := .flushing }).2 :=
    (h.enter .flushing).issueFramer (i := .flush) rfl
  unfold Machine.drawCall drawEnd
  split
  · split
    · exact hsent
    · exact (hsent.enter _).returns _
    · exact (hsent.enter _).returns _
  · exact h.markFault

theorem State.EvolvesUndrawn.closeRelease : s.EvolvesUndrawn (closeRelease t) := by
  have hrel := h.resetControl .release
  unfold Machine.closeRelease
  dsimp only
  split
  · exact hrel
  · exact hrel.shut.returns _
  · exact hrel.shut.returns _

theorem State.EvolvesUndrawn.closeCall : s.EvolvesUndrawn (closeCall t) := by
  have hsent : s.EvolvesUndrawn (issue (sendCmdBody [t.cfg.powerOffOpc]) t).2 := h.issueFramer (i := .sendCmd _) rfl
  unfold Machine.closeCall closePowerOff
  dsimp only
  split
  · split
    · exact hsent
    · exact hsent.closeRelease
    · exact hsent.shut.returns _
  · exact h.markFault

/-- `open` has no meaning once a block was constructed, so every session call leaves it in place (R30, R41). -/
theorem State.EvolvesUndrawn.sessionCall {c : SessionCall} {u : State} (hs : t.session ≠ .uninitialized)
    (hc : sessionCall c t = .next u) : s.EvolvesUndrawn u := by
  cases c with
  | openBlock cfg =>
    rw [Machine.sessionCall, openCall, if_neg hs] at hc
    cases hc
    exact h.markFault
  | setup => cases hc; exact h.setupCall
  | draw => cases hc; exact h.drawCall
  | close => cases hc; exact h.closeCall

end

/-! ## Fetching, and the step -/

/-- Fetching may set FAULT; of the block and the session it changes nothing else. -/
structure State.FetchKeeps (s t : State) : Prop where
  cfg : t.cfg = s.cfg
  fb : t.fb = s.fb
  live : t.live = s.live
  fault : s.fault = true → t.fault = true
  oversize : t.oversize = s.oversize
  txLog : t.txLog = s.txLog
  session : t.session = s.session

theorem State.FetchKeeps.evolvesUndrawn {s t : State} (h : s.FetchKeeps t) : s.EvolvesUndrawn t :=
  .of_eq h.cfg h.fb h.live h.fault h.oversize h.txLog

theorem State.FetchKeeps.refl (s : State) : s.FetchKeeps s := ⟨rfl, rfl, rfl, id, rfl, rfl, rfl⟩

theorem fetchKeeps_take (n : Nat) (s : State) : s.FetchKeeps (s.take n) := ⟨rfl, rfl, rfl, id, rfl, rfl, rfl⟩

theorem State.FetchKeeps.markFault {s t : State} (h : s.FetchKeeps t) : s.FetchKeeps t.markFault :=
  { h with fault := fun _ => rfl }

theorem State.FetchKeeps.reply {s t : State} (h : s.FetchKeeps t) (a : Reply) : s.FetchKeeps (t.reply a) := { h with }

theorem awaitWords_fetchKeeps (s : State) : s.FetchKeeps (awaitWords s) := by
  unfold awaitWords
  split
  · exact .refl s
  · exact (fetchKeeps_take _ s).markFault

/-- An illegal descriptor is answered, or sets FAULT where no block lives (R97, R39). -/
theorem State.FetchKeeps.issueIllegal {s t : State} (h : s.FetchKeeps t) : s.FetchKeeps (issue illegalBody t).2 := by
  cases hl : t.live with
  | false => rw [issue_dead hl]; exact h.markFault
  | true => rw [issue_live hl]; exact h.reply _

theorem fetchDescriptor_fetchKeeps (s : State) : (fetchDescriptor s).Holds s.FetchKeeps := by
  unfold fetchDescriptor
  split
  · exact fetchKeeps_take _ s
  · exact (fetchKeeps_take _ s).issueIllegal
  · exact awaitWords_fetchKeeps s

theorem fetch_fetchKeeps (s : State) : (fetch s).Holds s.FetchKeeps := by
  unfold fetch
  split
  · trivial
  · split
    · exact .refl s
    · exact fetchKeeps_take 1 s
    · exact (fetchKeeps_take 1 s).markFault
    · exact fetchDescriptor_fetchKeeps s
    · exact fetchDescriptor_fetchKeeps s

/-- What a step of a constructed block can do, said once: to the block, to the framebuffer, and to TXLOG. -/
theorem step_evolves {s t : State} (hs : s.session ≠ .uninitialized) (h : step s = .next t) :
    s.Evolves t ∧
      (t.fb = s.fb ∨ ∃ i u, fetch s = .instr i u ∧ drawsPixels i = true ∧ s.live = true) ∧
      (t.txLog = s.txLog ∨
        s.live = true ∧ ((∃ i u, fetch s = .instr i u ∧ isFramer i = true) ∨ ∃ c u, fetch s = .call c u)) := by
  have hfetched := fetch_fetchKeeps s
  unfold step at h
  cases hf : fetch s with
  | stuck f => rw [hf] at h; cases h
  | settled u =>
    rw [hf] at h hfetched
    cases h
    exact ⟨hfetched.evolvesUndrawn.toEvolves, .inl hfetched.fb, .inl hfetched.txLog⟩
  | call c u =>
    rw [hf] at h hfetched
    have hk : s.FetchKeeps u := hfetched
    have hu := hk.evolvesUndrawn.sessionCall (by rw [hk.session]; exact hs) h
    refine ⟨hu.toEvolves, .inl hu.fb, ?_⟩
    cases hl : s.live with
    | false => exact .inl (hu.silent hl)
    | true => exact .inr ⟨rfl, .inr ⟨c, u, rfl⟩⟩
  | instr i u =>
    rw [hf] at h hfetched
    have hk : s.FetchKeeps u := hfetched
    obtain ⟨hev, hfb, htx⟩ := evolves_exec h
    rw [hk.fb, hk.live] at hfb
    rw [hk.txLog, hk.live] at htx
    exact ⟨hk.evolvesUndrawn.toEvolves.trans hev, hfb.imp_right fun ⟨hd, hl⟩ => ⟨i, u, rfl, hd, hl⟩,
      htx.imp_right fun ⟨hi, hl⟩ => ⟨hl, .inl ⟨i, u, rfl, hi⟩⟩⟩

/-- Settles O18: the configuration stays as the block evolves. -/
theorem configurationIsImmutable : Obligations.ConfigurationIsImmutable := by
  unfold Obligations.ConfigurationIsImmutable
  exact fun s t hs h => (step_evolves hs h).1.cfg

/-- Settles O19: the marks and LIVE as the block evolves. -/
theorem marksAndDeathAreSticky : Obligations.MarksAndDeathAreSticky := by
  unfold Obligations.MarksAndDeathAreSticky
  intro s t hs h
  obtain ⟨hev, -, -⟩ := step_evolves hs h
  exact ⟨hev.fault, hev.oversize, hev.live⟩

/-- Settles O20: the framebuffer is as it was after every step but a drawing operation's. -/
theorem onlyDrawingWritesTheFramebuffer : Obligations.OnlyDrawingWritesTheFramebuffer := by
  unfold Obligations.OnlyDrawingWritesTheFramebuffer
  intro s t hs h hne
  obtain ⟨-, hfb, -⟩ := step_evolves hs h
  exact hfb.resolve_left hne

/-- Settles O21: where something was appended, TXLOG is not what it was. -/
theorem txLogOnlyGrows : Obligations.TxLogOnlyGrows := by
  unfold Obligations.TxLogOnlyGrows
  intro s t hs h
  obtain ⟨hev, -, htx⟩ := step_evolves hs h
  obtain ⟨l, hl⟩ := hev.txLog
  refine ⟨l, hl.symm, fun hne => htx.resolve_left fun hsame => hne ?_⟩
  simpa [hsame] using hl

/-- Settles O17: the length of the snapshot is the configuration's, which no step changes, and the step keeps the invariant's
canonical form. -/
theorem framebufferLengthIsFixed : Obligations.FramebufferLengthIsFixed := by
  unfold Obligations.FramebufferLengthIsFixed
  refine ⟨fun s => bytes_length _ _, fun s t hinv hs h => ?_⟩
  have hcfg : t.cfg = s.cfg := (step_evolves hs h).1.cfg
  have hmem := (stepKeepsInvariant s t hinv h).memory
  rw [hcfg] at hmem
  exact ⟨by simp only [State.snapshot, bytes_length, hcfg], hmem⟩

end Sys2Proof.Machine
end

section
/-! SUPPORT. The reset state (10_state.md R34, R44), `open` where it fails (60_exceptions.md R274), and the violations of the
host contract (R284). -/

namespace Sys2Proof.Machine

/-! ## Reset -/

/-- A framebuffer that lists nothing is all `0x00` (R34). -/
theorem bytes_nil (nb : Nat) : Mem.bytes nb [] = List.replicate nb 0x00 := by
  simp [Mem.bytes, Mem.read]

theorem pixelAt_nil (w x y : Nat) : pixelAt w [] x y = 0 := by
  simp [pixelAt, Mem.read]

/-- Settles O11. -/
theorem resetFramebufferIsClear : Obligations.ResetFramebufferIsClear := by
  unfold Obligations.ResetFramebufferIsClear
  exact ⟨bytes_nil _, fun x y _ _ => pixelAt_nil _ x y⟩

/-- Settles O12: the fields of the reset state, as they are written there. -/
theorem resetState : Obligations.ResetState := by
  unfold Obligations.ResetState
  exact ⟨rfl, rfl, rfl, rfl, rfl, rfl, rfl, rfl, rfl, rfl, rfl, rfl, rfl⟩

/-- The prefixes are distinct as the images of distinct bytes under a permutation (R11; log 2). -/
theorem pfxDistinct_reference : pfxDistinct Config.reference = true := by
  simp [pfxDistinct, Config.reference]

/-- The bring-up sequence has its first two bytes, and is cut where a SENDCMD ends (R93, R277). -/
theorem bringUpLegal_reference : bringUpLegal Config.reference.bringUpSeq = true := by
  simp only [bringUpLegal, Config.reference, List.length_cons, List.length_take, Bool.and_eq_true, decide_eq_true_eq]
  omega

/-- The reference configuration is legal, whatever its free values are (R31). -/
theorem configLegal_reference : configLegal Config.reference = true := by
  rw [configLegal, pfxDistinct_reference, bringUpLegal_reference]
  rfl

/-- Settles O15: no byte and no frame is listed, and the configuration is the legal reference. -/
theorem resetMeetsInvariant : Obligations.ResetMeetsInvariant where
  legal := configLegal_reference
  memory := rfl
  life := rfl
  flushing := nofun
  frames := nofun
  addressed := nofun
  lengths := nofun

/-! ## `open` where it fails -/

theorem openCall_illegal {cfg : Config} {s : State} (hs : s.session = .uninitialized) (hc : configLegal cfg = false) :
    openCall cfg s = .refused .illegalConfig := by simp [openCall, hs, hc]

theorem openCall_legal {cfg : Config} {s : State} (hs : s.session = .uninitialized) (hc : configLegal cfg = true) :
    openCall cfg s = .next (openCollaborators cfg s) := by simp [openCall, hs, hc]

/-- The reset control cannot be acquired (R274). -/
theorem openCollaborators_err {cfg : Config} {s : State} {e : IoError} (h : s.nextDraw = .returns (.err e)) :
    openCollaborators cfg s = s.advanceDraw.returns (.acquire .resetControl e) := by
  simp [openCollaborators, acquire_returns h]

theorem openCollaborators_ok {cfg : Config} {s : State} (h : s.nextDraw = .returns .ok) :
    openCollaborators cfg s = openDirection cfg (s.afterDraws 1) := by
  rw [openCollaborators, acquire_returns h]
  rfl

/-- The direction cannot be set where the host sets it in `open` (R273; log 17). -/
theorem openDirection_err {cfg : Config} {s : State} {e : IoError} (due : cfg.dirInOpen = true)
    (h : s.nextDraw = .returns (.err e)) :
    openDirection cfg s = { s.advanceDraw with
      resetLog := s.resetLog ++ [.called .setDirectionOut (.err e)]
      replies := s.replies ++ [.session (.resetControl .setDirectionOut e)] } := by
  rw [openDirection, due, setDirection_due, resetControl_returns h]
  rfl

/-- The bus transport cannot be acquired by the collaborator call number `k` (R274). -/
theorem openTransport_err {cfg : Config} {s : State} {k : Nat} {e : IoError} (h : s.drawAt k = .returns (.err e))
    (l : List ResetEvent) :
    openTransport cfg { s.afterDraws k with resetLog := l } = { s.afterDraws (k + 1) with
      resetLog := l
      replies := s.replies ++ [.session (.acquire .busTransport e)] } := by
  have hd : State.nextDraw { s.afterDraws k with resetLog := l } = .returns (.err e) := nextDraw_of_drawAt h rfl rfl
  dsimp only at hd ⊢
  rw [openTransport, acquire_returns hd, ← afterDraws_add, ← afterDraws_replies k s]
  rfl

/-- After the reset control was acquired and the direction set, where the host sets it in `open`, the transport is asked. -/
theorem openDirection_ok {cfg : Config} {s : State} (h : s.okBefore (1 + cfg.dirInOpen.toNat)) :
    openDirection cfg (s.afterDraws 1) = openTransport cfg { s.afterDraws (1 + cfg.dirInOpen.toNat) with
      resetLog := s.resetLog ++ directionCalls cfg.dirInOpen } := by
  rw [openDirection, setDirection_ok rfl rfl h, afterDraws_eq (1 + cfg.dirInOpen.toNat)]
  rfl

/-- Settles O14: one clause per step of `open` that can fail. -/
theorem openFailureConstructsNothing : Obligations.OpenFailureConstructsNothing := by
  unfold Obligations.OpenFailureConstructsNothing
  intro cfg s hs
  refine ⟨openCall_illegal hs, fun hc => ?_⟩
  simp only [sessionCall, openCall_legal hs hc]
  refine ⟨fun e he => ?resetControl, fun e due hok he => ?direction, fun e hok he => ?transport⟩
  case resetControl =>
    rw [openCollaborators_err (drawAt_zero s ▸ he)]
    rfl
  case direction =>
    have hok1 : s.okBefore (0 + 1) := hok
    rw [openCollaborators_ok (okBefore_succ hok1).1, openDirection_err due he]
    rfl
  case transport =>
    have hok1 : s.okBefore (0 + 1) := okBefore_mono hok (by omega)
    rw [openCollaborators_ok (okBefore_succ hok1).1, openDirection_ok hok, openTransport_err he,
      show 1 + cfg.dirInOpen.toNat + 1 = 2 + cfg.dirInOpen.toNat by omega]

/-! ## Violations of the host contract -/

theorem drawCall_elsewhere {s : State} (h : s.session ≠ .active) : drawCall s = s.markFault := if_neg h

theorem setupCall_elsewhere {s : State} (h : s.session ≠ .configured) : setupCall s = s.markFault := if_neg h

theorem openCall_elsewhere {cfg : Config} {s : State} (h : s.session ≠ .uninitialized) :
    openCall cfg s = .next s.markFault := if_neg h

theorem closeCall_elsewhere {s : State} (hc : s.session ≠ .configured) (ha : s.session ≠ .active) :
    closeCall s = s.markFault := if_neg (by simp [hc, ha])

/-- After `close` every session call sets FAULT alone (R282, R284(d)). -/
theorem sessionCall_closed {s : State} (h : s.session = .closed) (c : SessionCall) :
    sessionCall c s = .next s.markFault := by
  cases c with
  | openBlock cfg => exact openCall_elsewhere (by simp [h])
  | setup => exact congrArg _ (setupCall_elsewhere (by simp [h]))
  | draw => exact congrArg _ (drawCall_elsewhere (by simp [h]))
  | close => exact congrArg _ (closeCall_elsewhere (by simp [h]) (by simp [h]))

/-- Settles O60: one clause per violation. -/
theorem contractViolationsSetFault : Obligations.ContractViolationsSetFault := by
  unfold Obligations.ContractViolationsSetFault
  refine ⟨fun s h => congrArg _ (drawCall_elsewhere h), fun s h => congrArg _ (setupCall_elsewhere h),
    fun s cfg h => openCall_elsewhere h, fun s hc ha => congrArg _ (closeCall_elsewhere hc ha),
    fun s c h => sessionCall_closed h c, fun s i h => exec_dead h i, fun s hinv h => ?_, fun s rest hs hp => step_overlap hs hp⟩
  rw [hinv.life, h]
  rfl

end Sys2Proof.Machine
end

section
/-! SUPPORT. The pixel mapping of 20_memory.md: the page, the column and the bit of a framebuffer byte (R61), and the
bijection between in-range pixels and framebuffer bits (R62). -/

namespace Sys2Proof.Machine

/-! ## Pages and columns -/

theorem width_pos {cfg : Config} (h : configLegal cfg = true) : 0 < cfg.w := by
  simp only [configLegal, sideLegal, Bool.and_eq_true, decide_eq_true_eq] at h
  omega

/-- The framebuffer holds `P` pages of `W` bytes (R9). -/
theorem fbSize_eq_width_mul_pageCount {cfg : Config} (h : cfg.h % 8 = 0) : fbSize cfg = cfg.w * pageCount cfg :=
  Nat.mul_div_assoc _ (Nat.dvd_of_mod_eq_zero h)

/-- The column of a pixel's byte is the pixel's `x`. -/
theorem pixelIndex_mod_width {w x : Nat} (hx : x < w) (y : Nat) : pixelIndex w x y % w = x := by
  rw [pixelIndex, Nat.mul_add_mod, Nat.mod_eq_of_lt hx]

/-- The page of a pixel's byte is the pixel's page. -/
theorem pixelIndex_div_width {w x : Nat} (hx : x < w) (y : Nat) : pixelIndex w x y / w = y / 8 := by
  rw [pixelIndex, Nat.mul_add_div (by omega), Nat.div_eq_of_lt hx, Nat.add_zero]

/-- Every row of page `i / W`, in column `i % W`, lies in byte `i`. -/
theorem pixelIndex_column_page (w i : Nat) {b : Nat} (hb : b < 8) : pixelIndex w (i % w) (i / w * 8 + b) = i := by
  have page : (i / w * 8 + b) / 8 = i / w := by omega
  rw [pixelIndex, page, Nat.div_add_mod]

/-- The rows of the page of a framebuffer byte lie on the grid. -/
theorem page_row_lt_height {cfg : Config} (h : cfg.h % 8 = 0) {i b : Nat} (hi : i < fbSize cfg) (hb : b < 8) :
    i / cfg.w * 8 + b < cfg.h := by
  have page : i / cfg.w < cfg.h / 8 := Nat.div_lt_of_lt_mul (fbSize_eq_width_mul_pageCount h ▸ hi)
  omega

/-! ## The bijection -/

/-- Settles O22, one direction per clause: a pixel comes back from its byte's page and column, and a bit of a byte from its
pixel (R62). -/
theorem pixelMappingIsABijection : Obligations.PixelMappingIsABijection := by
  unfold Obligations.PixelMappingIsABijection
  intro cfg hc
  have hh := height_mod_eight hc
  refine ⟨fun x y hx hy => ⟨pixelIndex_lt hh hx hy, pixelIndex_mod_width hx y, ?_⟩,
    fun i b hi hb => ⟨Nat.mod_lt i (width_pos hc), page_row_lt_height hh hi hb, pixelIndex_column_page cfg.w i hb, ?_⟩⟩
  · rw [pixelIndex_div_width hx, Nat.div_add_mod']
  · rw [Nat.mul_add_mod', Nat.mod_eq_of_lt hb]

end Sys2Proof.Machine
end

section
/-! SUPPORT. What the decoder does with each descriptor whose words have arrived, and that it accepts only encodings
(30_encoding.md R91 to R99). -/

namespace Sys2Proof

/-! ## The checks of R97 in their order -/

/-- Case (a): a reserved opcode. -/
theorem decode_reservedOpcode {w0 : Word16} (h : Opcode.ofByte (opcBits w0) = none) (rest : List Word16) :
    decode (w0 :: rest) = .illegal .reservedOpcode 1 := by simp only [decode, h]

section
variable {w0 : Word16} {rest : List Word16} {op : Opcode} {n : Nat} (hop : Opcode.ofByte (opcBits w0) = some op)
  (hn : op.totalWords rest = some n) (arrived : n ≤ rest.length + 1)
include hop hn arrived

/-- A descriptor whose words have all arrived is subject to the checks (b) to (d). -/
theorem decode_arrived : decode (w0 :: rest) =
    if rsvBits w0 ≠ 0 then .illegal .reservedBits n
    else if colourBit w0 = 1 ∧ op.usesColour = false then .illegal .colourBit n
    else if padByteBad op rest then .illegal .padByte n
    else .instr (op.build (Colour.ofBit (colourBit w0)) rest) n := by
  simp only [decode, hop, hn, if_neg (Nat.not_lt.2 arrived)]

/-- Case (b). -/
theorem decode_reservedBits (rsv : rsvBits w0 ≠ 0) : decode (w0 :: rest) = .illegal .reservedBits n := by
  rw [decode_arrived hop hn arrived, if_pos rsv]

/-- Case (c). -/
theorem decode_colourBit (rsv : rsvBits w0 = 0) (colour : colourBit w0 = 1) (unused : op.usesColour = false) :
    decode (w0 :: rest) = .illegal .colourBit n := by
  rw [decode_arrived hop hn arrived, if_neg (not_not.2 rsv), if_pos ⟨colour, unused⟩]

section
variable (rsv : rsvBits w0 = 0) (colour : colourBit w0 = 0 ∨ op.usesColour = true)
include rsv colour

/-- A header that passes the checks (b) and (c) leaves the pad byte to look at. -/
theorem decode_legalHeader : decode (w0 :: rest) =
    if padByteBad op rest then .illegal .padByte n else .instr (op.build (Colour.ofBit (colourBit w0)) rest) n := by
  have legal : ¬ (colourBit w0 = 1 ∧ op.usesColour = false) := by
    rintro ⟨hset, hunused⟩
    rcases colour with hclr | hused
    · exact absurd (hclr.symm.trans hset) (by decide)
    · exact absurd (hused.symm.trans hunused) (by decide)
  rw [decode_arrived hop hn arrived, if_neg (not_not.2 rsv), if_neg legal]

/-- Case (d). -/
theorem decode_padByte (pad : padByteBad op rest = true) : decode (w0 :: rest) = .illegal .padByte n := by
  rw [decode_legalHeader hop hn arrived rsv colour, if_pos pad]

/-- A descriptor in none of the cases. -/
theorem decode_legal (pad : padByteBad op rest = false) :
    decode (w0 :: rest) = .instr (op.build (Colour.ofBit (colourBit w0)) rest) n := by
  rw [decode_legalHeader hop hn arrived rsv colour, if_neg (by simp [pad])]

end
end

/-- Settles O4: one lemma per case of R97. -/
theorem illegalDescriptorCases : Obligations.IllegalDescriptorCases := by
  unfold Obligations.IllegalDescriptorCases
  exact fun w0 rest => ⟨fun h => decode_reservedOpcode h rest, fun op n hop hn arrived =>
    ⟨decode_reservedBits hop hn arrived, decode_colourBit hop hn arrived, decode_padByte hop hn arrived,
      fun rsv colour pad => ⟨_, decode_legal hop hn arrived rsv colour pad⟩⟩⟩

/-- What the decoder has checked of a descriptor it accepts (R91, R94, R95, R97). -/
theorem decode_instr_cases {ws : List Word16} {i : Instr} {n : Nat} (h : decode ws = .instr i n) :
    ∃ w0 rest op, ws = w0 :: rest ∧ Opcode.ofByte (opcBits w0) = some op ∧ op.totalWords rest = some n ∧
      n ≤ rest.length + 1 ∧ rsvBits w0 = 0 ∧ (colourBit w0 = 0 ∨ op.usesColour = true) ∧ padByteBad op rest = false ∧
      i = op.build (Colour.ofBit (colourBit w0)) rest := by
  cases ws with
  | nil => cases h
  | cons w0 rest =>
    cases hop : Opcode.ofByte (opcBits w0) with
    | none => simp [decode_reservedOpcode hop] at h
    | some op =>
      cases hn : op.totalWords rest with
      | none => simp [decode, hop, hn] at h
      | some m =>
        by_cases arrived : m ≤ rest.length + 1
        · rw [decode_arrived hop hn arrived] at h
          split_ifs at h with rsv colour pad
          cases h
          refine ⟨w0, rest, op, rfl, hop, hn, arrived, not_not.1 rsv, ?_, by simpa using pad, rfl⟩
          by_cases used : op.usesColour = true
          · exact .inr used
          · exact .inl (BitVec.eq_zero_or_eq_one _ |>.resolve_right fun hset => colour ⟨hset, by simpa using used⟩)
        · simp [decode, hop, hn, Nat.not_le.1 arrived] at h

/-! ## The header word from its fields -/

@[simp] theorem toBit_ofBit (b : BitVec 1) : (Colour.ofBit b).toBit = b := by
  rcases BitVec.eq_zero_or_eq_one b with rfl | rfl <;> rfl

/-- One row of the opcode map, read from the number's side. -/
theorem toByte_of_row {b number : Byte} {op rowOp : Opcode} {below : Option Opcode} (row : rowOp.toByte = number)
    (hbelow : below = some op → op.toByte = b) (h : (if b = number then some rowOp else below) = some op) : op.toByte = b := by
  split at h
  · next hb => rw [← Option.some.inj h, row, hb]
  · exact hbelow h

/-- The opcode map gives an opcode from its own number only (R94): down the map's twelve rows. -/
theorem toByte_of_ofByte {b : Byte} {op : Opcode} : Opcode.ofByte b = some op → op.toByte = b := by
  unfold Opcode.ofByte
  iterate 12 refine toByte_of_row rfl ?_
  nofun

/-- A header whose reserved bits are 0 is made of its opcode and its colour (R91). -/
theorem headerWord_of_fields {w0 : Word16} {op : Opcode} (hop : Opcode.ofByte (opcBits w0) = some op)
    (rsv : rsvBits w0 = 0) : headerWord op (colourBit w0) = w0 := by
  rw [headerWord, toByte_of_ofByte hop, ← rsv]
  have upper : rsvBits w0 ++ colourBit w0 = w0.extractLsb' 8 8 := BitVec.extractLsb'_append_extractLsb'_eq_extractLsb' rfl
  rw [upper]
  exact wordOf_hiByte_loByte w0

/-! ## Operands and payloads from their words -/

/-- The first words after the header are the operands read from them (R92). -/
theorem take_eq_operandWords {rest : List Word16} {k : Nat} (h : k ≤ rest.length) :
    rest.take k = (List.range k).map (operandWord rest) := by
  refine List.ext_getElem (by simpa using h) fun j hj _ => ?_
  have inside : j < rest.length := hj.trans_le (List.length_take_le' k rest)
  simp [operandWord, inside]

/-- Unpacking and packing gives the words back, where a byte that fills the last word is the pad byte `0x00` (R93). -/
theorem packBytes_take_unpackWords {ws : List Word16} {len : Nat} (words : ws.length = (len + 1) / 2)
    (pad : len % 2 = 1 → (unpackWords ws).getD len 0 = 0) : packBytes ((unpackWords ws).take len) = ws := by
  induction ws generalizing len with
  | nil => simp [unpackWords, packBytes]
  | cons w ws ih =>
    rw [List.length_cons] at words
    match len with
    | 0 => omega
    | 1 =>
      obtain rfl : ws = [] := List.length_eq_zero_iff.1 (by omega)
      have high : hiByte w = 0 := pad rfl
      simpa [unpackWords, packBytes, high] using wordOf_hiByte_loByte w
    | m + 2 =>
      have tail : packBytes ((unpackWords ws).take m) = ws :=
        ih (by omega) fun odd => by simpa [unpackWords] using pad (by omega)
      simp [unpackWords, packBytes, tail]

/-- A payload read by the decoder fits the length word (R93). -/
theorem payloadFits_payloadOf (rest : List Word16) : payloadFits (payloadOf rest) = true := by
  have bound : payloadLen rest < 65536 := (rest.headD 0).isLt
  simp only [payloadFits, payloadOf, List.length_take, decide_eq_true_eq]
  omega

/-- The instruction of any opcode and words is well-formed (R93, R98). -/
theorem build_wellFormed (op : Opcode) (c : Colour) (rest : List Word16) : (op.build c rest).wellFormed = true := by
  cases op with
  | sendCmd | sendData | sendChunked => exact payloadFits_payloadOf rest
  | clear | point | query | snapshot | line | circle | rect | glyph | flush => rfl

/-- A payload whose words have all arrived, with a good pad byte, packs into the words it was read from (R93). -/
theorem payloadOperands_payloadOf {op : Opcode} {rest : List Word16} {n : Nat} (payload : op.hasPayload = true)
    (hn : rest.head?.map (fun len => payloadDescriptorWords len.toNat) = some n) (arrived : n ≤ rest.length + 1)
    (pad : padByteBad op rest = false) (w0 : Word16) : w0 :: payloadOperands (payloadOf rest) = (w0 :: rest).take n := by
  cases rest with
  | nil => cases hn
  | cons len ws =>
    obtain rfl : payloadDescriptorWords len.toNat = n := Option.some.inj hn
    have words : (ws.take ((len.toNat + 1) / 2)).length = (len.toNat + 1) / 2 := by
      simp only [payloadDescriptorWords, List.length_cons] at arrived
      rw [List.length_take]
      omega
    have length : (payloadOf (len :: ws)).length = len.toNat := by
      simp only [payloadOf, payloadWords, payloadLen, List.headD_cons, List.drop_one, List.tail_cons, List.length_take,
        Machine.unpackWords_length, words]
      omega
    have good : len.toNat % 2 = 1 → (unpackWords (ws.take ((len.toNat + 1) / 2))).getD len.toNat 0 = 0 := by
      simpa [padByteBad, payload, payloadLen, payloadWords] using pad
    have packed : packBytes (payloadOf (len :: ws)) = ws.take ((len.toNat + 1) / 2) := packBytes_take_unpackWords words good
    rw [payloadOperands, length, packed, payloadDescriptorWords, Nat.add_comm 2]
    simp

/-- The encoding of an instruction built from words that have all arrived is its header and those words, where the colour
bit is 0 on a colourless opcode and the pad byte is good (R91 to R95). -/
theorem encode_build {op : Opcode} {c : Colour} {rest : List Word16} {n : Nat} (hn : op.totalWords rest = some n)
    (arrived : n ≤ rest.length + 1) (colour : c = .clr ∨ op.usesColour = true) (pad : padByteBad op rest = false) :
    encode (op.build c rest) = (headerWord op c.toBit :: rest).take n := by
  have clr (h : op.usesColour = false) : c = .clr := colour.resolve_right (by simp [h])
  have fixed {k : Nat} (h : k + 1 ≤ rest.length + 1) : headerWord op c.toBit :: (List.range k).map (operandWord rest) =
      (headerWord op c.toBit :: rest).take (k + 1) := by
    rw [List.take_succ_cons, take_eq_operandWords (Nat.le_of_succ_le_succ h)]
  cases op with
  | sendCmd | sendData | sendChunked =>
    obtain rfl := clr rfl
    exact payloadOperands_payloadOf rfl hn arrived pad _
  | query | snapshot | flush =>
    obtain rfl := clr rfl
    obtain rfl := Option.some.inj hn
    exact fixed arrived
  | clear | point | line | circle | rect | glyph =>
    obtain rfl := Option.some.inj hn
    exact fixed arrived

/-! ## The statements -/

/-- Settles O1. -/
theorem decodeInvertsEncode : Obligations.DecodeInvertsEncode := by
  unfold Obligations.DecodeInvertsEncode
  exact fun i rest h => decode_encode_append h rest

/-- Settles O2: the checks the descriptor passed say that its header and its words are those of the encoding. -/
theorem decodedWordsAreTheEncoding : Obligations.DecodedWordsAreTheEncoding := by
  unfold Obligations.DecodedWordsAreTheEncoding
  intro ws i n h
  obtain ⟨w0, rest, op, rfl, hop, hn, arrived, rsv, colour, pad, rfl⟩ := decode_instr_cases h
  have hc : Colour.ofBit (colourBit w0) = .clr ∨ op.usesColour = true := colour.imp_left fun h0 => by rw [h0]; rfl
  refine ⟨build_wellFormed op _ rest, arrived, ?_⟩
  rw [encode_build hn arrived hc pad, toBit_ofBit, headerWord_of_fields hop rsv]

/-- Settles O3: each of the descriptors is the encoding of its instruction. -/
theorem writtenOutDescriptorsDecode : Obligations.WrittenOutDescriptorsDecode := by
  unfold Obligations.WrittenOutDescriptorsDecode
  have decoded {i : Instr} (h : i.wellFormed = true) : decode (encode i) = .instr i (encode i).length := by
    simpa using decode_encode_append h []
  exact ⟨decoded (i := .clear .set) rfl, decoded (i := .clear .clr) rfl, decoded (i := .point .set 3 5) rfl,
    decoded (i := .query 3 5) rfl, decoded (i := .line .set 0 0 4 0) rfl, decoded (i := .circle .set 11 11 4) rfl,
    decoded (i := .glyph .set 0 3 65) rfl, decoded (i := .sendCmd [0xAE]) rfl,
    decoded (i := .sendData [0x12, 0x34, 0x56]) rfl, decoded (i := .sendChunked []) rfl, decoded (i := .flush) rfl⟩

end Sys2Proof
end

section
/-! SUPPORT. What the port delivers, a step at an illegal descriptor (30_encoding.md R96, R97; 60_exceptions.md R254), and
what a frame's first byte tells its receiver (30_encoding.md R103, R104; 42_framer.md R211). -/

namespace Sys2Proof.Machine

/-! ## The port -/

/-- Settles O6. -/
theorem portDeliversTheWordsSent : Obligations.PortDeliversTheWordsSent := by
  unfold Obligations.PortDeliversTheWordsSent
  refine ⟨fun p ws => ?_, fun w => rfl, fun w => rfl⟩
  have nothing : portWords p [] = [] := by cases p <;> rfl
  simpa [nothing] using portWords_sendWords_append p ws []

/-- The words at the port are an illegal descriptor: the step takes its transfers and answers ILLEGAL (R97). -/
theorem step_illegal {s : State} (hs : s.stalled = false) {why : IllegalReason} {n : Nat}
    (h : decode (portWords s.cfg.descPort s.pending) = .illegal why n) :
    step s = runOp illegalBody (s.take (transfersOf s.cfg.descPort n)) := by
  have hne : portWords s.cfg.descPort s.pending ≠ [] := fun hnil => by simp [hnil, decode] at h
  obtain ⟨a, rest, hp, ha⟩ := transfer_of_portWords_ne_nil hne
  rw [step, fetch_transfer hs hp ha, fetchDescriptor, h, runOp]

/-- Settles O5: the block lives, so the answer is returned, and an illegal descriptor has no other effect. -/
theorem illegalDescriptorHasNoEffect : Obligations.IllegalDescriptorHasNoEffect := by
  unfold Obligations.IllegalDescriptorHasNoEffect
  intro s why n hs hl h
  have living : (s.take (transfersOf s.cfg.descPort n)).live = true := hl
  rw [step_illegal hs h, runOp, issue, if_pos living]
  rfl

/-! ## Prefixes of frames -/

/-- What a receiver reads from the byte before a payload: the frame's kind, and whether its payload is one byte (R104). -/
def prefixClass (cfg : Config) (p : Byte) : FrameKind × Bool :=
  if p = cfg.pfxCmdSingle then (.cmd, true)
  else if p = cfg.pfxCmdMulti then (.cmd, false)
  else if p = cfg.pfxDataSingle then (.data, true)
  else (.data, false)

theorem selectPfx_single (cfg : Config) :
    selectPfx cfg .cmd 1 = cfg.pfxCmdSingle ∧ selectPfx cfg .data 1 = cfg.pfxDataSingle := ⟨rfl, rfl⟩

theorem selectPfx_multi (cfg : Config) {n : Nat} (h : n ≠ 1) :
    selectPfx cfg .cmd n = cfg.pfxCmdMulti ∧ selectPfx cfg .data n = cfg.pfxDataMulti := ⟨if_neg h, if_neg h⟩

/-- A receiver reads back the kind and the length class that selected the byte, as the prefixes are distinct (R104). -/
theorem prefixClass_selectPfx {cfg : Config} (h : configLegal cfg = true) (kind : FrameKind) (n : Nat) :
    prefixClass cfg (selectPfx cfg kind n) = (kind, decide (n = 1)) := by
  have distinct : pfxDistinct cfg = true := by
    simp only [configLegal, Bool.and_eq_true] at h
    tauto
  simp only [pfxDistinct, Bool.and_eq_true, decide_eq_true_eq] at distinct
  obtain ⟨⟨⟨⟨⟨cs_cm, cs_ds⟩, cs_dm⟩, cm_ds⟩, cm_dm⟩, ds_dm⟩ := distinct
  by_cases hn : n = 1
  · subst hn
    cases kind with
    | cmd => simp [prefixClass, selectPfx_single]
    | data => simp [prefixClass, selectPfx_single, cs_ds.symm, cm_ds.symm]
  · cases kind with
    | cmd => simp [prefixClass, selectPfx_multi cfg hn, hn, cs_cm.symm]
    | data => simp [prefixClass, selectPfx_multi cfg hn, hn, cs_dm.symm, cm_dm.symm, ds_dm.symm]

/-- Settles O41: equal prefixes are read as the same kind and length class. -/
theorem prefixByKindAndLength : Obligations.PrefixByKindAndLength := by
  unfold Obligations.PrefixByKindAndLength
  refine ⟨fun cfg n => ⟨(selectPfx_single cfg).1, fun h => (selectPfx_multi cfg h).1, (selectPfx_single cfg).2,
    fun h => (selectPfx_multi cfg h).2⟩, fun cfg k k' n n' legal same => ?_⟩
  have read : (k, decide (n = 1)) = (k', decide (n' = 1)) := by
    rw [← prefixClass_selectPfx legal, same, prefixClass_selectPfx legal]
  simpa using read

end Sys2Proof.Machine
end

section
/-! SUPPORT. The framebuffer as bits: what a masked update, a plot and a painting make of each bit of each byte, and the
operations CLEAR, POINT, QUERY and SNAPSHOT of a living block (20_memory.md R61; 40_framebuffer.md R130 to R136). -/

namespace Sys2Proof.Machine

/-! ## Bits of bytes -/

/-- A pixel's mask has exactly its bit (R61, R130). -/
theorem pixelMask_getLsbD (y b : Nat) : (pixelMask y).getLsbD b = decide (b = y % 8) := by
  have bit : y % 8 < 8 := Nat.mod_lt y (by omega)
  rw [pixelMask, BitVec.natCast_eq_ofNat, BitVec.getLsbD_ofNat, Nat.one_shiftLeft, Nat.testBit_two_pow, ← Bool.decide_and]
  exact decide_eq_decide.2 (by omega)

/-- A masked update gives the bits of the mask the colour, and no other bit (R131). -/
theorem maskByte_getLsbD (a m : Byte) (c : Colour) (b : Nat) :
    (maskByte a m c).getLsbD b = if m.getLsbD b then decide (c = .set) else a.getLsbD b := by
  by_cases hb : b < 8
  · cases c with
    | set => simp only [maskByte, BitVec.getLsbD_or]; cases m.getLsbD b <;> simp
    | clr => simp only [maskByte, BitVec.getLsbD_and, BitVec.getLsbD_not, hb]; cases m.getLsbD b <;> simp
  · simp [BitVec.getLsbD_of_ge _ b (not_lt.1 hb)]

theorem toBit_eq_ofBool (c : Colour) : c.toBit = BitVec.ofBool (decide (c = .set)) := by cases c <;> rfl

theorem extractLsb'_one (a : Byte) (b : Nat) : a.extractLsb' b 1 = BitVec.ofBool (a.getLsbD b) := by
  ext k hk
  obtain rfl : k = 0 := by omega
  simp

theorem pixelAt_eq_ofBool (w : Nat) (fb : Mem) (x y : Nat) :
    pixelAt w fb x y = BitVec.ofBool ((Mem.read fb (pixelIndex w x y)).getLsbD (y % 8)) := extractLsb'_one _ _

/-- Two canonical framebuffers with the same bits are the same. -/
theorem mem_ext_bits {nb : Nat} {f g : Mem} (hf : Mem.wf nb f = true) (hg : Mem.wf nb g = true)
    (h : ∀ i b, (Mem.read f i).getLsbD b = (Mem.read g i).getLsbD b) : f = g :=
  mem_ext hf hg fun i => BitVec.eq_of_getLsbD_eq fun b _ => h i b

/-! ## Where a pixel lies -/

/-- `p` is on the grid, and its pixel is bit `b` of byte `i` (R61, R63). -/
abbrev LiesAt (w h : Nat) (p : Int × Int) (i b : Nat) : Prop :=
  inGrid w h p.1 p.2 ∧ i = pixelIndex w p.1.toNat p.2.toNat ∧ b = p.2.toNat % 8

/-- A byte and a bit have at most one pixel: its column and page are those of the byte (R62). -/
theorem LiesAt.eq {w h : Nat} {p : Int × Int} {i b : Nat} (hp : LiesAt w h p i b) :
    p = (((i % w : Nat) : Int), ((i / w * 8 + b : Nat) : Int)) := by
  obtain ⟨grid, rfl, rfl⟩ := hp
  have column : p.1.toNat < w := by omega
  rw [pixelIndex_mod_width column, pixelIndex_div_width column]
  ext <;> simp only <;> omega

theorem liesAt_pixelIndex_iff {w h x y : Nat} (hx : x < w) (hy : y < h) (p : Int × Int) :
    LiesAt w h p (pixelIndex w x y) (y % 8) ↔ p = ((x : Int), (y : Int)) := by
  refine ⟨fun hp => ?_, ?_⟩
  · rw [hp.eq, pixelIndex_mod_width hx, pixelIndex_div_width hx, Nat.div_add_mod']
  · rintro rfl
    exact ⟨by simp [inGrid, hx, hy], rfl, rfl⟩

/-- The pixel of bit `k` of byte `i` lies there and nowhere else (R62). -/
theorem liesAt_column_row_iff {cfg : Config} (hc : configLegal cfg = true) {i k : Nat} (hi : i < fbSize cfg) (hk : k < 8)
    (j b : Nat) :
    LiesAt cfg.w cfg.h (((i % cfg.w : Nat) : Int), ((i / cfg.w * 8 + k : Nat) : Int)) j b ↔ j = i ∧ b = k := by
  have column : i % cfg.w < cfg.w := Nat.mod_lt i (width_pos hc)
  have row : i / cfg.w * 8 + k < cfg.h := page_row_lt_height (height_mod_eight hc) hi hk
  have grid : inGrid cfg.w cfg.h ((i % cfg.w : Nat) : Int) ((i / cfg.w * 8 + k : Nat) : Int) := by omega
  have bit : (i / cfg.w * 8 + k) % 8 = k := by omega
  simp only [LiesAt, Int.toNat_natCast, pixelIndex_column_page cfg.w i hk, bit, and_iff_right grid]

/-! ## What drawing makes of each bit -/

theorem applyMask_getLsbD {nb : Nat} {fb : Mem} (hf : Mem.wf nb fb = true) (i : Nat) (m : Byte) (c : Colour) (j b : Nat) :
    (Mem.read (applyMask i m c fb) j).getLsbD b =
      if j = i ∧ m.getLsbD b = true then decide (c = .set) else (Mem.read fb j).getLsbD b := by
  rw [read_applyMask hf]
  by_cases hj : j = i
  · subst hj
    simp only [if_true, maskByte_getLsbD, true_and]
  · simp only [hj, if_false, false_and]

theorem plot_offGrid {w h : Nat} {p : Int × Int} (hp : ¬ inGrid w h p.1 p.2) (c : Colour) (fb : Mem) :
    plot w h c fb p = fb := if_neg hp

theorem plot_onGrid {w h : Nat} {p : Int × Int} (hp : inGrid w h p.1 p.2) (c : Colour) (fb : Mem) :
    plot w h c fb p = applyMask (pixelIndex w p.1.toNat p.2.toNat) (pixelMask p.2.toNat) c fb := if_pos hp

/-- A plot gives its pixel's bit the colour, and no other bit (R130). -/
theorem plot_getLsbD {nb w h : Nat} {fb : Mem} (hf : Mem.wf nb fb = true) (c : Colour) (p : Int × Int) (i b : Nat) :
    (Mem.read (plot w h c fb p) i).getLsbD b =
      if LiesAt w h p i b then decide (c = .set) else (Mem.read fb i).getLsbD b := by
  by_cases hp : inGrid w h p.1 p.2
  · simp only [plot_onGrid hp, applyMask_getLsbD hf, pixelMask_getLsbD, decide_eq_true_eq, LiesAt, and_iff_right hp]
  · simp only [plot_offGrid hp, LiesAt, hp, false_and, if_false]

/-- A plot writes no byte but its pixel's (R133). -/
theorem read_plot_of_ne {nb w h : Nat} {fb : Mem} (hf : Mem.wf nb fb = true) (c : Colour) {p : Int × Int} {i : Nat}
    (hi : i ≠ pixelIndex w p.1.toNat p.2.toNat) : Mem.read (plot w h c fb p) i = Mem.read fb i :=
  BitVec.eq_of_getLsbD_eq fun b _ => by rw [plot_getLsbD hf, if_neg fun ⟨_, byte, _⟩ => hi byte]

/-- Painting gives the bits of the list's pixels the colour, and no other bit (R160). -/
theorem paint_getLsbD {w h : Nat} (hh : h % 8 = 0) {fb : Mem} (hf : Mem.wf (w * h / 8) fb = true) (c : Colour)
    (pts : List (Int × Int)) (i b : Nat) :
    (Mem.read (paint w h c pts fb) i).getLsbD b =
      if ∃ p ∈ pts, LiesAt w h p i b then decide (c = .set) else (Mem.read fb i).getLsbD b := by
  induction pts generalizing fb with
  | nil => simp [paint]
  | cons p ps ih =>
    have first : paint w h c (p :: ps) fb = paint w h c ps (plot w h c fb p) := rfl
    rw [first, ih (wf_plot hh hf c p), plot_getLsbD hf, ← ite_or]
    simp only [List.exists_mem_cons_iff, or_comm]

/-- Painting turns exactly the list's pixels that are on the grid to the colour (R160). -/
theorem paintsExactly_paint {cfg : Config} (hc : configLegal cfg = true) {fb : Mem} (hf : Mem.wf (fbSize cfg) fb = true)
    (c : Colour) (pts : List (Int × Int)) : PaintsExactly cfg c pts fb (paint cfg.w cfg.h c pts fb) := by
  refine ⟨wf_paint (height_mod_eight hc) hf c pts, fun x y hx hy => ?_⟩
  simp only [pixelAt_eq_ofBool, paint_getLsbD (height_mod_eight hc) hf, liesAt_pixelIndex_iff hx hy, toBit_eq_ofBool,
    exists_eq_right, apply_ite BitVec.ofBool]

/-! ## The laws of Plot -/

/-- Of two plots to one pixel the last wins (R136). -/
theorem plot_plot_same {w h : Nat} (hh : h % 8 = 0) {fb : Mem} (hf : Mem.wf (w * h / 8) fb = true) (c d : Colour)
    (p : Int × Int) : plot w h d (plot w h c fb p) p = plot w h d fb p := by
  have hw := wf_plot hh hf c p
  refine mem_ext_bits (wf_plot hh hw d p) (wf_plot hh hf d p) fun i b => ?_
  rw [plot_getLsbD hw, plot_getLsbD hf, plot_getLsbD hf]
  split_ifs <;> rfl

/-- Plots to different pixels commute: no bit is both pixels' (R62, R136). -/
theorem plot_comm {w h : Nat} (hh : h % 8 = 0) {fb : Mem} (hf : Mem.wf (w * h / 8) fb = true) (c d : Colour)
    {p q : Int × Int} (hpq : p ≠ q) : plot w h d (plot w h c fb p) q = plot w h c (plot w h d fb q) p := by
  have hp := wf_plot hh hf c p
  have hq := wf_plot hh hf d q
  refine mem_ext_bits (wf_plot hh hp d q) (wf_plot hh hq c p) fun i b => ?_
  rw [plot_getLsbD hp, plot_getLsbD hq, plot_getLsbD hf, plot_getLsbD hf]
  by_cases atP : LiesAt w h p i b
  · have notQ : ¬ LiesAt w h q i b := fun atQ => hpq (atP.eq.trans atQ.eq.symm)
    rw [if_neg notQ, if_neg notQ]
  · rw [if_neg atP, if_neg atP]

/-- A masked update of a framebuffer byte paints the mask's bits, listed in any order (R131). -/
theorem applyMask_eq_paint {cfg : Config} (hc : configLegal cfg = true) {fb : Mem} (hf : Mem.wf (fbSize cfg) fb = true)
    {i : Nat} (hi : i < fbSize cfg) {m : Byte} (c : Colour) {bits : List Nat}
    (hbits : ∀ b, b ∈ bits ↔ b < 8 ∧ m.getLsbD b = true) :
    applyMask i m c fb = paint cfg.w cfg.h c
      (bits.map fun b => (((i % cfg.w : Nat) : Int), ((i / cfg.w * 8 + b : Nat) : Int))) fb := by
  have hh := height_mod_eight hc
  refine mem_ext_bits (wf_applyMask hf hi m c) (wf_paint hh hf c _) fun j b => ?_
  rw [applyMask_getLsbD hf, paint_getLsbD hh hf]
  congr 1
  simp only [List.mem_map, exists_exists_and_eq_and, eq_iff_iff]
  refine ⟨?_, ?_⟩
  · rintro ⟨rfl, hm⟩
    have hb : b < 8 := BitVec.lt_of_getLsbD hm
    exact ⟨b, (hbits b).2 ⟨hb, hm⟩, (liesAt_column_row_iff hc hi hb _ _).2 ⟨rfl, rfl⟩⟩
  · rintro ⟨k, hk, lies⟩
    obtain ⟨hk8, hm⟩ := (hbits k).1 hk
    obtain ⟨rfl, rfl⟩ := (liesAt_column_row_iff hc hi hk8 _ _).1 lies
    exact ⟨rfl, hm⟩

/-- The empty mask changes nothing (R131). -/
theorem applyMask_zero {nb : Nat} {fb : Mem} (hf : Mem.wf nb fb = true) {i : Nat} (hi : i < nb) (c : Colour) :
    applyMask i 0x00 c fb = fb :=
  mem_ext_bits (wf_applyMask hf hi _ c) hf fun j b => by simp [applyMask_getLsbD hf]

/-- Settles O28: painting does not depend on the order of the bits, only on which of them are in the list. -/
theorem applyMaskIsPlotsOfItsBits : Obligations.ApplyMaskIsPlotsOfItsBits := by
  unfold Obligations.ApplyMaskIsPlotsOfItsBits
  intro cfg fb i m c hc hf hi
  refine ⟨fun bits perm => ?_, ?_, fun b _ hm => ?_, fun j hj => ?_, applyMask_zero hf hi c⟩
  · rw [applyMask_eq_paint hc hf hi c fun b => by rw [perm.mem_iff, List.mem_filter, List.mem_range], paint, List.foldl_map]
  · rw [read_applyMask hf, if_pos rfl]
    cases c with
    | set => rfl
    | clr => exact congrArg (Mem.read fb i &&& ·) (BitVec.and_allOnes (x := ~~~m)).symm
  · simp [applyMask_getLsbD hf, hm]
  · rw [read_applyMask hf, if_neg hj]

/-! ## The operations of a living block -/

/-- The header of an opcode with a colour is its number, with bit 8 set for SET (R91). -/
theorem headerWord_toBit (op : Opcode) (c : Colour) : headerWord op c.toBit = colourHeader c op.toByte.toNat := by
  cases op <;> cases c <;> rfl

section
variable {s : State} (hl : s.live = true)
include hl

theorem exec_clear_live (c : Colour) : exec (.clear c) s =
    .next { s with fb := Mem.fill (fbSize s.cfg) (fillByte c), replies := s.replies ++ [.op (.ok .unit)] } :=
  exec_live hl _

theorem exec_point_live (c : Colour) (x y : Word16) : exec (.point c x y) s =
    .next { s with
      fb := plot s.cfg.w s.cfg.h c s.fb ((x.toNat : Int), (y.toNat : Int))
      replies := s.replies ++ [.op (.ok .unit)] } :=
  exec_live hl _

theorem exec_query_onGrid {x y : Word16} (hx : x.toNat < s.cfg.w) (hy : y.toNat < s.cfg.h) : exec (.query x y) s =
    .next { s with replies := s.replies ++ [.op (.ok (.pixel (pixelAt s.cfg.w s.fb x.toNat y.toNat)))] } := by
  rw [exec_live hl]
  simp [instrBody, queryBody, hx, hy, State.answer, State.reply]

theorem exec_query_offGrid {x y : Word16} (h : x.toNat ≥ s.cfg.w ∨ y.toNat ≥ s.cfg.h) : exec (.query x y) s =
    .next { s with replies := s.replies ++ [.op .outOfRange] } := by
  have off : ¬ (x.toNat < s.cfg.w ∧ y.toNat < s.cfg.h) := by omega
  rw [exec_live hl]
  simp [instrBody, queryBody, off, State.answer, State.reply]

theorem exec_snapshot_live : exec .snapshot s =
    .next { s with replies := s.replies ++ [.op (.ok (.bytes (Mem.bytes (fbSize s.cfg) s.fb)))] } := exec_live hl _

end

/-- Every pixel of a filled framebuffer has the colour (R132). -/
theorem pixelAt_fill {cfg : Config} (hc : configLegal cfg = true) (c : Colour) {x y : Nat} (hx : x < cfg.w)
    (hy : y < cfg.h) : pixelAt cfg.w (Mem.fill (fbSize cfg) (fillByte c)) x y = c.toBit := by
  have inside : pixelIndex cfg.w x y < fbSize cfg := pixelIndex_lt (height_mod_eight hc) hx hy
  have bit : y % 8 < 8 := Nat.mod_lt y (by omega)
  rw [pixelAt_eq_ofBool, mem_read_fill inside, toBit_eq_ofBool]
  cases c with
  | set => exact congrArg BitVec.ofBool ((BitVec.getLsbD_allOnes (v := 8)).trans (decide_eq_true bit))
  | clr => exact congrArg BitVec.ofBool BitVec.getLsbD_zero

/-- Settles O23: the new framebuffer is the filled one. -/
theorem clearFillsEveryByte : Obligations.ClearFillsEveryByte := by
  unfold Obligations.ClearFillsEveryByte
  refine ⟨fun c => by rw [encode, headerWord_toBit]; rfl, fun c s hl =>
    ⟨_, exec_clear_live hl c, mem_wf_fill _ _, fun i hi => ?_⟩⟩
  rw [mem_read_fill hi]
  cases c <;> rfl

/-- Settles O24: the new framebuffer is that of one plot. -/
theorem pointWritesOnePixel : Obligations.PointWritesOnePixel := by
  unfold Obligations.PointWritesOnePixel
  refine ⟨fun c x y => by rw [encode, headerWord_toBit]; rfl, fun c x y s inv hl =>
    ⟨_, exec_point_live hl c x y, paintsExactly_paint inv.legal inv.memory c [_], fun off => ?_, fun i hi => ?_⟩⟩
  · exact plot_offGrid (by omega) c s.fb
  · exact read_plot_of_ne inv.memory c hi

/-- Settles O25: both clauses are the two cases of the body. -/
theorem queryReadsOnePixel : Obligations.QueryReadsOnePixel := by
  unfold Obligations.QueryReadsOnePixel
  refine ⟨fun x y => rfl, fun x y s hl => ⟨fun hx hy => ?_, exec_query_offGrid hl⟩⟩
  rw [exec_query_onGrid hl hx hy, pixelAt_eq_ofBool, extractLsb'_one, BitVec.getLsbD_ushiftRight, Nat.add_zero, pixelIndex]

/-- Settles O26: the bytes are the snapshot. -/
theorem snapshotReadsEveryByte : Obligations.SnapshotReadsEveryByte := by
  unfold Obligations.SnapshotReadsEveryByte
  exact ⟨rfl, fun s hl => ⟨_, exec_snapshot_live hl, bytes_length _ _, fun i hi => bytes_get _ hi⟩⟩

/-- Settles O27: the laws of Plot; POINT.C after POINT.S is POINT.C alone, as the last plot wins; and QUERY of the framebuffer
that CLEAR leaves. -/
theorem framebufferLaws : Obligations.FramebufferLaws := by
  unfold Obligations.FramebufferLaws
  refine ⟨fun cfg fb hc hf => ?_, fun x y s t u inv hl _ _ setStep clrStep => ?_, fun c x y s t hc hl clearStep hx hy => ?_⟩
  · have hh := height_mod_eight hc
    exact ⟨fun c x y off => plot_offGrid off c fb, fun c p => plot_plot_same hh hf c c p,
      fun c d p q hpq => plot_comm hh hf c d hpq, fun c d p => plot_plot_same hh hf c d p⟩
  · rw [exec_point_live hl] at setStep
    cases setStep
    rw [exec_point_live (by exact hl)] at clrStep
    cases clrStep
    simp only [plot_plot_same (height_mod_eight inv.legal) inv.memory]
    exact paintsExactly_paint inv.legal inv.memory .clr [_]
  · rw [exec_clear_live hl] at clearStep
    cases clearStep
    rw [exec_query_onGrid, pixelAt_fill hc c hx hy]
    · cases c <;> rfl
    exacts [hl, hx, hy]

end Sys2Proof.Machine
end

section
/-! SUPPORT. The loop of LINE (41_rasterizer.md R161, R162): its variables at each round, what a round can do, the swap of the
axes, and where the loop ends. -/

namespace Sys2Proof.Machine

/-! ## The rounds of the loop -/

/-- The pixel a round plots (R161). -/
def LineVars.point (v : LineVars) : Int × Int := (v.x, v.y)

/-- LINE's variables after `k` rounds (R161). -/
def lineVarsAt (x0 y0 x1 y1 : Int) (k : Nat) : LineVars :=
  (lineStep (lineSetup x0 y0 x1 y1))^[k] ⟨x0, y0, (lineSetup x0 y0 x1 y1).dx - (lineSetup x0 y0 x1 y1).dy⟩

/-- `max(dx, dy)`, the number of LINE's rounds (R162(a)). -/
def lineRounds (x0 y0 x1 y1 : Int) : Nat := max (x1 - x0).natAbs (y1 - y0).natAbs

theorem lineVarsAt_succ (x0 y0 x1 y1 : Int) (k : Nat) :
    lineVarsAt x0 y0 x1 y1 (k + 1) = lineStep (lineSetup x0 y0 x1 y1) (lineVarsAt x0 y0 x1 y1 k) :=
  Function.iterate_succ_apply' ..

theorem stepSign_eq (a b : Int) : stepSign a b = 1 ∨ stepSign a b = -1 := by
  unfold stepSign
  split
  · exact .inl rfl
  · exact .inr rfl

/-- The step sign leads from `a` to `b` in `|b - a|` steps. -/
theorem add_natAbs_mul_stepSign (a b : Int) : a + ((b - a).natAbs : Int) * stepSign a b = b := by
  unfold stepSign
  split <;> omega

/-- A loop that does not meet its endpoint before its bound plots one pixel before each round and one after the last. -/
theorem lineLoop_eq_map {g : LineSetup} {n : Nat} {v : LineVars}
    (h : ∀ k < n, ((lineStep g)^[k] v).point ≠ (g.x1, g.y1)) :
    lineLoop g n v = (List.range (n + 1)).map fun k => ((lineStep g)^[k] v).point := by
  induction n generalizing v with
  | zero => rfl
  | succ n ih =>
    have notYet : ¬ (v.x = g.x1 ∧ v.y = g.y1) := fun ⟨hx, hy⟩ => h 0 (by omega) (Prod.ext hx hy)
    rw [lineLoop, if_neg notYet, ih fun k hk => h (k + 1) (by omega), List.range_succ_eq_map (n := n + 1), List.map_cons,
      List.map_map]
    rfl

/-- A round moves at most one pixel along each axis, and along one of them at least, unless the endpoints are one pixel: `2e`
cannot be both `-dy` or less and `dx` or more. -/
theorem lineStep_neighbour {x0 y0 x1 y1 : Int} (h : 0 < lineRounds x0 y0 x1 y1) (v : LineVars) :
    let w := lineStep (lineSetup x0 y0 x1 y1) v
    (w.x - v.x).natAbs ≤ 1 ∧ (w.y - v.y).natAbs ≤ 1 ∧ ((w.x - v.x).natAbs = 1 ∨ (w.y - v.y).natAbs = 1) := by
  simp only [lineStep, lineSetup, lineRounds] at h ⊢
  have sx := stepSign_eq x0 x1
  have sy := stepSign_eq y0 y1
  split_ifs <;> omega

/-! ## The swap of the axes -/

/-- The variables of the loop with `x` and `y` exchanged. -/
def LineVars.swap (v : LineVars) : LineVars := ⟨v.y, v.x, -v.e⟩

/-- A round of the loop with `x` and `y` exchanged: its two comparisons change places. -/
theorem lineStep_swap (x0 y0 x1 y1 : Int) (v : LineVars) :
    lineStep (lineSetup y0 x0 y1 x1) v.swap = (lineStep (lineSetup x0 y0 x1 y1) v).swap := by
  have toX : 2 * -v.e > -((x1 - x0).natAbs : Int) ↔ 2 * v.e < ((x1 - x0).natAbs : Int) := by omega
  have toY : 2 * -v.e < ((y1 - y0).natAbs : Int) ↔ 2 * v.e > -((y1 - y0).natAbs : Int) := by omega
  simp only [lineStep, lineSetup, LineVars.swap, toX, toY, LineVars.mk.injEq]
  split_ifs <;> omega

theorem lineVarsAt_swap (x0 y0 x1 y1 : Int) (k : Nat) :
    lineVarsAt y0 x0 y1 x1 k = (lineVarsAt x0 y0 x1 y1 k).swap := by
  induction k with
  | zero => simp [lineVarsAt, LineVars.swap, lineSetup]
  | succ k ih => rw [lineVarsAt_succ, lineVarsAt_succ, ih, lineStep_swap]

theorem lineRounds_swap (x0 y0 x1 y1 : Int) : lineRounds y0 x0 y1 x1 = lineRounds x0 y0 x1 y1 := max_comm ..

/-! ## Where the loop ends -/

/-- The loop after `k` rounds, where `dy <= dx`: it has gone `k` steps along `x` and `b` along `y`, and its error is in the
range in which the next round steps along `x`. -/
structure LineVars.AtRound (x0 y0 : Int) (g : LineSetup) (k : Nat) (b : Int) (v : LineVars) : Prop where
  x : v.x = x0 + k * g.sx
  y : v.y = y0 + b * g.sy
  e : v.e = (1 + b) * g.dx - (1 + k) * g.dy
  above : -g.dy < 2 * v.e
  below : 2 * v.e < 3 * g.dx - 2 * g.dy

theorem LineVars.AtRound.step {x0 y0 : Int} {g : LineSetup} {k : Nat} {b : Int} {v : LineVars} (hy : 0 ≤ g.dy)
    (hg : g.dy ≤ g.dx) (h : v.AtRound x0 y0 g k b) : ∃ b', (lineStep g v).AtRound x0 y0 g (k + 1) b' := by
  obtain ⟨x, y, e, above, below⟩ := h
  by_cases alongY : 2 * v.e < g.dx
  · refine ⟨b + 1, ?_, ?_, ?_, ?_, ?_⟩ <;> simp only [lineStep, gt_iff_lt, above, alongY, if_true]
    · rw [x]; push_cast; ring
    · rw [y]; ring
    · rw [e]; push_cast; ring
    · omega
    · omega
  · refine ⟨b, ?_, ?_, ?_, ?_, ?_⟩ <;> simp only [lineStep, gt_iff_lt, above, alongY, if_true, if_false]
    · rw [x]; push_cast; ring
    · exact y
    · rw [e]; push_cast; ring
    · omega
    · omega

/-- Where the loop's exact line has gone a whole number `m` of pixels along `y`, the loop has gone as many. -/
theorem LineVars.AtRound.offset_eq {x0 y0 : Int} {g : LineSetup} {k : Nat} {b m : Int} {v : LineVars} (hx : 0 < g.dx)
    (hy : 0 ≤ g.dy) (h : v.AtRound x0 y0 g k b) (hm : k * g.dy = m * g.dx) : b = m := by
  have error : v.e = (1 + b - m) * g.dx - g.dy := by rw [h.e]; linear_combination -hm
  have above := h.above
  have below := h.below
  rw [error] at above below
  have pos : 0 < 1 + b - m := pos_of_mul_pos_left (b := g.dx) (by omega) hx.le
  have small : 1 + b - m < 2 := lt_of_mul_lt_mul_right (a := g.dx) (by omega) hx.le
  omega

section
variable {x0 y0 x1 y1 : Int} (hx : x0 ≠ x1) (shallow : (y1 - y0).natAbs ≤ (x1 - x0).natAbs)
include hx shallow

theorem exists_atRound (k : Nat) : ∃ b, (lineVarsAt x0 y0 x1 y1 k).AtRound x0 y0 (lineSetup x0 y0 x1 y1) k b := by
  induction k with
  | zero =>
    refine ⟨0, by simp [lineVarsAt], by simp [lineVarsAt], by simp [lineVarsAt], ?_, ?_⟩ <;>
      simp only [lineVarsAt, lineSetup, Function.iterate_zero, id] <;> omega
  | succ k ih =>
    obtain ⟨b, h⟩ := ih
    rw [lineVarsAt_succ]
    exact h.step (by simp only [lineSetup]; omega) (by simp only [lineSetup]; omega)

/-- Where `dy <= dx`, every round goes one step along `x`. -/
theorem lineVarsAt_x (k : Nat) : (lineVarsAt x0 y0 x1 y1 k).x = x0 + k * stepSign x0 x1 := by
  obtain ⟨b, h⟩ := exists_atRound hx shallow k
  exact h.x

theorem lineVarsAt_y {k : Nat} {m : Int} (hm : k * ((y1 - y0).natAbs : Int) = m * ((x1 - x0).natAbs : Int)) :
    (lineVarsAt x0 y0 x1 y1 k).y = y0 + m * stepSign y0 y1 := by
  obtain ⟨b, h⟩ := exists_atRound hx shallow k
  rw [h.y, h.offset_eq (by simp only [lineSetup]; omega) (by simp only [lineSetup]; omega) hm]
  rfl

end

/-- The loop is at its endpoint after `max(dx, dy)` rounds, and up to there at no pixel twice. -/
def LineEnds (x0 y0 x1 y1 : Int) : Prop :=
  (lineVarsAt x0 y0 x1 y1 (lineRounds x0 y0 x1 y1)).point = (x1, y1) ∧
  ∀ j ≤ lineRounds x0 y0 x1 y1, ∀ k ≤ lineRounds x0 y0 x1 y1,
    (lineVarsAt x0 y0 x1 y1 j).point = (lineVarsAt x0 y0 x1 y1 k).point → j = k

theorem LineEnds.swap {x0 y0 x1 y1 : Int} (h : LineEnds x0 y0 x1 y1) : LineEnds y0 x0 y1 x1 := by
  simp only [LineEnds, lineRounds_swap x0 y0, lineVarsAt_swap x0 y0, LineVars.swap, LineVars.point, Prod.mk.injEq] at h ⊢
  exact ⟨h.1.symm, fun j hj k hk same => h.2 j hj k hk same.symm⟩

theorem lineEnds_shallow {x0 y0 x1 y1 : Int} (shallow : (y1 - y0).natAbs ≤ (x1 - x0).natAbs) : LineEnds x0 y0 x1 y1 := by
  have rounds : lineRounds x0 y0 x1 y1 = (x1 - x0).natAbs := max_eq_left shallow
  rw [LineEnds, rounds]
  by_cases hx : x0 = x1
  · have none : (x1 - x0).natAbs = 0 := by omega
    obtain rfl : y0 = y1 := by omega
    rw [none, ← hx]
    exact ⟨rfl, fun j hj k hk _ => by omega⟩
  · refine ⟨Prod.ext ?_ ?_, fun j _ k _ same => ?_⟩
    · exact (lineVarsAt_x hx shallow _).trans (add_natAbs_mul_stepSign x0 x1)
    · exact (lineVarsAt_y hx shallow (mul_comm _ _)).trans (add_natAbs_mul_stepSign y0 y1)
    · have sameX := congrArg Prod.fst same
      simp only [LineVars.point, lineVarsAt_x hx shallow] at sameX
      obtain sign | sign := stepSign_eq x0 x1 <;> rw [sign] at sameX <;> omega

/-- Where `dx < dy`, the axes change places. -/
theorem lineEnds (x0 y0 x1 y1 : Int) : LineEnds x0 y0 x1 y1 := by
  obtain shallow | steep := le_total (y1 - y0).natAbs (x1 - x0).natAbs
  · exact lineEnds_shallow shallow
  · exact (lineEnds_shallow steep).swap

theorem lineVarsAt_ne_end {x0 y0 x1 y1 : Int} {k : Nat} (hk : k < lineRounds x0 y0 x1 y1) :
    (lineVarsAt x0 y0 x1 y1 k).point ≠ (x1, y1) := by
  obtain ⟨ends, distinct⟩ := lineEnds x0 y0 x1 y1
  intro early
  have := distinct k hk.le _ le_rfl (early.trans ends.symm)
  omega

/-- LINE's points are those of its rounds (R161). -/
theorem linePoints_eq_map (x0 y0 x1 y1 : Int) :
    linePoints x0 y0 x1 y1 =
      (List.range (lineRounds x0 y0 x1 y1 + 1)).map fun k => (lineVarsAt x0 y0 x1 y1 k).point := by
  have bound : (max (lineSetup x0 y0 x1 y1).dx (lineSetup x0 y0 x1 y1).dy).toNat = lineRounds x0 y0 x1 y1 := by
    simp only [lineSetup, lineRounds]; omega
  simp only [linePoints, bound]
  exact lineLoop_eq_map fun k hk => lineVarsAt_ne_end hk

theorem linePoints_nodup (x0 y0 x1 y1 : Int) : (linePoints x0 y0 x1 y1).Nodup := by
  rw [linePoints_eq_map]
  refine List.nodup_range.map_on fun j hj k hk same => ?_
  rw [List.mem_range, Nat.lt_succ_iff] at hj hk
  exact (lineEnds x0 y0 x1 y1).2 j hj k hk same

/-- Settles O30: `round` is the model's step, and its iterates are the rounds. -/
theorem lineLoopEndsAtTheEndpoint : Obligations.LineLoopEndsAtTheEndpoint := by
  unfold Obligations.LineLoopEndsAtTheEndpoint
  intro x0 y0 x1 y1 dx dy sx sy round n v
  exact ⟨linePoints_eq_map x0 y0 x1 y1, Prod.ext_iff.1 (lineEnds x0 y0 x1 y1).1,
    fun k hk atEnd => lineVarsAt_ne_end hk (Prod.ext_iff.2 atEnd), linePoints_nodup x0 y0 x1 y1⟩

/-- Settles O31: successive points are those of successive rounds. -/
theorem lineIsEightConnected : Obligations.LineIsEightConnected := by
  unfold Obligations.LineIsEightConnected
  intro x0 y0 x1 y1 k p q hp hq
  simp only [linePoints_eq_map, List.getElem?_map, List.getElem?_eq_some_iff, Option.map_eq_some_iff, List.getElem_range,
    List.length_range] at hp hq
  obtain ⟨_, ⟨hk, rfl⟩, rfl⟩ := hp
  obtain ⟨_, ⟨hk', rfl⟩, rfl⟩ := hq
  rw [lineVarsAt_succ]
  exact lineStep_neighbour (by omega) _

/-! ## Horizontal and vertical lines -/

/-- A horizontal LINE goes straight to its endpoint (R162(c)). -/
theorem lineVarsAt_horizontal {x0 x1 y : Int} {k : Nat} (hk : k ≤ lineRounds x0 y x1 y) :
    (lineVarsAt x0 y x1 y k).point = (x0 + k * stepSign x0 x1, y) := by
  by_cases hx : x0 = x1
  · obtain rfl : k = 0 := by simp only [lineRounds] at hk; omega
    simp [lineVarsAt, LineVars.point]
  · have shallow : (y - y).natAbs ≤ (x1 - x0).natAbs := by simp
    exact Prod.ext (lineVarsAt_x hx shallow k) ((lineVarsAt_y hx shallow (m := 0) (by simp)).trans (by simp))

theorem mem_linePoints_horizontal {x0 x1 y : Int} {p : Int × Int} :
    p ∈ linePoints x0 y x1 y ↔ p.2 = y ∧ min x0 x1 ≤ p.1 ∧ p.1 ≤ max x0 x1 := by
  have rounds : lineRounds x0 y x1 y = (x1 - x0).natAbs := by simp [lineRounds]
  simp only [linePoints_eq_map, List.mem_map, List.mem_range, Nat.lt_succ_iff]
  constructor
  · rintro ⟨k, hk, rfl⟩
    rw [lineVarsAt_horizontal hk]
    refine ⟨rfl, ?_⟩
    rw [rounds] at hk
    simp only [stepSign]
    split_ifs <;> omega
  · rintro ⟨rfl, between⟩
    have hk : (p.1 - x0).natAbs ≤ lineRounds x0 p.2 x1 p.2 := by omega
    refine ⟨_, hk, (lineVarsAt_horizontal hk).trans (Prod.ext ?_ rfl)⟩
    simp only [stepSign]
    split_ifs <;> omega

/-- The points of LINE with its axes exchanged. -/
theorem mem_linePoints_swap {x0 y0 x1 y1 : Int} {p : Int × Int} :
    p ∈ linePoints y0 x0 y1 x1 ↔ p.swap ∈ linePoints x0 y0 x1 y1 := by
  simp only [linePoints_eq_map, List.mem_map, lineRounds_swap x0 y0, lineVarsAt_swap x0 y0, LineVars.swap, LineVars.point,
    Prod.ext_iff, Prod.fst_swap, Prod.snd_swap, and_comm]

theorem mem_linePoints_vertical {x y0 y1 : Int} {p : Int × Int} :
    p ∈ linePoints x y0 x y1 ↔ p.1 = x ∧ min y0 y1 ≤ p.2 ∧ p.2 ≤ max y0 y1 :=
  mem_linePoints_swap.trans mem_linePoints_horizontal

/-- Settles O32. -/
theorem axisLinesAreSegments : Obligations.AxisLinesAreSegments := by
  unfold Obligations.AxisLinesAreSegments
  exact ⟨fun _ _ _ _ => mem_linePoints_horizontal, fun _ _ _ _ => mem_linePoints_vertical, rfl, rfl⟩

/-! ## The operation of a living block -/

theorem exec_line_live {s : State} (hl : s.live = true) (c : Colour) (x0 y0 x1 y1 : Word16) :
    exec (.line c x0 y0 x1 y1) s = .next { s with
      fb := paint s.cfg.w s.cfg.h c (linePoints x0.toNat y0.toNat x1.toNat y1.toNat) s.fb
      replies := s.replies ++ [.op (.ok .unit)] } :=
  exec_live hl _

/-- Settles O29: the new framebuffer is that of painting the points. -/
theorem linePaintsItsPoints : Obligations.LinePaintsItsPoints := by
  unfold Obligations.LinePaintsItsPoints
  exact ⟨fun c x0 y0 x1 y1 => by rw [encode, headerWord_toBit]; rfl, fun c x0 y0 x1 y1 s inv hl =>
    ⟨_, exec_line_live hl c x0 y0 x1 y1, paintsExactly_paint inv.legal inv.memory c _⟩⟩

end Sys2Proof.Machine
end

section
/-! SUPPORT. Painting by masks: a fold of masked updates paints the pixels of its masks, and paintings with the same pixels on
the grid are the same. RECT and its three reference paths (41_rasterizer.md R165, R166). -/

namespace Sys2Proof.Machine

/-! ## Paintings and their pixels -/

/-- Only the pixels on the grid count (R63, R160). -/
theorem paint_congr {cfg : Config} (hc : configLegal cfg = true) {fb : Mem} (hf : Mem.wf (fbSize cfg) fb = true) (c : Colour)
    {pts qts : List (Int × Int)}
    (h : ∀ x y : Nat, x < cfg.w → y < cfg.h → (((x : Int), (y : Int)) ∈ pts ↔ ((x : Int), (y : Int)) ∈ qts)) :
    paint cfg.w cfg.h c pts fb = paint cfg.w cfg.h c qts fb := by
  have hh := height_mod_eight hc
  have onGrid : ∀ {p i b}, LiesAt cfg.w cfg.h p i b → (p ∈ pts ↔ p ∈ qts) := by
    rintro ⟨px, py⟩ i b ⟨⟨⟨hx0, hx⟩, hy0, hy⟩, -⟩
    lift px to Nat using hx0
    lift py to Nat using hy0
    exact h px py (Int.ofNat_lt.1 hx) (Int.ofNat_lt.1 hy)
  refine mem_ext_bits (wf_paint hh hf c pts) (wf_paint hh hf c qts) fun i b => ?_
  rw [paint_getLsbD hh hf, paint_getLsbD hh hf]
  exact if_congr (exists_congr fun p => and_congr_left onGrid) rfl rfl

/-- Where every step of a fold is a painting, the fold paints the pixels of all steps. -/
theorem foldl_eq_paint {α : Type} {w h : Nat} (hh : h % 8 = 0) {c : Colour} {step : Mem → α → Mem}
    {pts : α → List (Int × Int)} {l : List α}
    (hstep : ∀ a ∈ l, ∀ fb, Mem.wf (w * h / 8) fb = true → step fb a = paint w h c (pts a) fb) {fb : Mem}
    (hf : Mem.wf (w * h / 8) fb = true) : l.foldl step fb = paint w h c (l.flatMap pts) fb := by
  induction l generalizing fb with
  | nil => rfl
  | cons a l ih =>
    obtain ⟨first, others⟩ := List.forall_mem_cons.1 hstep
    rw [List.foldl_cons, first fb hf, ih others (wf_paint hh hf c _), List.flatMap_cons, paint_append]

/-- Painting leaves a byte in which none of its pixels lies. -/
theorem read_paint_of_not_liesAt {w h : Nat} (hh : h % 8 = 0) {fb : Mem} (hf : Mem.wf (w * h / 8) fb = true) (c : Colour)
    {pts : List (Int × Int)} {i : Nat} (off : ∀ b, ∀ p ∈ pts, ¬ LiesAt w h p i b) :
    Mem.read (paint w h c pts fb) i = Mem.read fb i :=
  BitVec.eq_of_getLsbD_eq fun b _ => by rw [paint_getLsbD hh hf, if_neg fun ⟨p, hp, lies⟩ => off b p hp lies]

/-! ## Columns of bits -/

/-- The pixels of the set bits of a byte, downwards from row `y` of column `x`. -/
def columnPoints (x y : Nat) (g : Byte) : List (Int × Int) :=
  ((List.range 8).filter fun k => g.getLsbD k).map fun k => ((x : Int), ((y + k : Nat) : Int))

theorem mem_columnPoints {x y : Nat} {g : Byte} {px py : Nat} :
    ((px : Int), (py : Int)) ∈ columnPoints x y g ↔ px = x ∧ y ≤ py ∧ g.getLsbD (py - y) = true := by
  simp only [columnPoints, List.mem_map, List.mem_filter, List.mem_range, Prod.mk.injEq, Nat.cast_inj]
  constructor
  · rintro ⟨k, ⟨-, bit⟩, rfl, rfl⟩
    exact ⟨rfl, Nat.le_add_right y k, by rwa [Nat.add_sub_cancel_left]⟩
  · rintro ⟨rfl, below, bit⟩
    exact ⟨py - y, ⟨BitVec.lt_of_getLsbD bit, bit⟩, rfl, Nat.add_sub_cancel' below⟩

/-- The byte of a page and a column lies in the framebuffer (R61). -/
theorem page_column_lt_fbSize {cfg : Config} (hc : configLegal cfg = true) {page x : Nat} (hp : page < pageCount cfg)
    (hx : x < cfg.w) : page * cfg.w + x < fbSize cfg := by
  rw [fbSize_eq_width_mul_pageCount (height_mod_eight hc)]
  calc page * cfg.w + x < (page + 1) * cfg.w := by rw [Nat.succ_mul]; omega
    _ ≤ pageCount cfg * cfg.w := Nat.mul_le_mul_right _ hp
    _ = cfg.w * pageCount cfg := Nat.mul_comm ..

/-- A masked update of a page's byte paints a column of that page (R131). -/
theorem applyMask_eq_paint_columnPoints {cfg : Config} (hc : configLegal cfg = true) {fb : Mem}
    (hf : Mem.wf (fbSize cfg) fb = true) {page x : Nat} (hp : page < pageCount cfg) (hx : x < cfg.w) (m : Byte) (c : Colour) :
    applyMask (page * cfg.w + x) m c fb = paint cfg.w cfg.h c (columnPoints x (page * 8) m) fb := by
  have column : (page * cfg.w + x) % cfg.w = x := by rw [Nat.mul_comm, Nat.mul_add_mod, Nat.mod_eq_of_lt hx]
  have row : (page * cfg.w + x) / cfg.w = page := by
    rw [Nat.mul_comm, Nat.mul_add_div (by omega), Nat.div_eq_of_lt hx, Nat.add_zero]
  rw [applyMask_eq_paint hc hf (page_column_lt_fbSize hc hp hx) (m := m) c
    (bits := (List.range 8).filter fun k => m.getLsbD k) fun b => by rw [List.mem_filter, List.mem_range], column, row]
  rfl

/-! ## RECT -/

theorem mem_natsFromTo {a b n : Nat} : n ∈ natsFromTo a b ↔ a ≤ n ∧ n ≤ b := by
  rw [natsFromTo, List.mem_range'_1]
  omega

/-- The same of the list taken into the integers. -/
theorem mem_natsFromTo_int {a b : Nat} {z : Int} : z ∈ (natsFromTo a b : List Int) ↔ (a : Int) ≤ z ∧ z ≤ (b : Int) := by
  simp only [List.bind_eq_flatMap, List.pure_def, List.mem_flatMap, List.mem_singleton, mem_natsFromTo]
  constructor
  · rintro ⟨n, between, rfl⟩
    omega
  · rintro ⟨low, high⟩
    exact ⟨z.toNat, by omega, by omega⟩

/-- RECT's pixels are those of its box, none where a pair of bounds is backwards (R165). -/
theorem mem_rectPoints {x0 y0 x1 y1 x y : Nat} :
    ((x : Int), (y : Int)) ∈ rectPoints x0 y0 x1 y1 ↔ x0 ≤ x ∧ x ≤ x1 ∧ y0 ≤ y ∧ y ≤ y1 := by
  unfold rectPoints
  split
  next backwards => simp only [List.not_mem_nil, false_iff]; omega
  next =>
    simp only [List.mem_flatMap, List.mem_map, mem_natsFromTo_int, Prod.mk.injEq]
    constructor
    · rintro ⟨_, rows, _, columns, rfl, rfl⟩
      omega
    · rintro ⟨left, right, low, high⟩
      exact ⟨y, by omega, x, by omega, rfl, rfl⟩

theorem rectPoints_backwards {x0 y0 x1 y1 : Nat} (h : x0 > x1 ∨ y0 > y1) : rectPoints x0 y0 x1 y1 = [] := if_pos h

theorem exec_rect_live {s : State} (hl : s.live = true) (c : Colour) (x0 y0 x1 y1 : Word16) :
    exec (.rect c x0 y0 x1 y1) s = .next { s with
      fb := paint s.cfg.w s.cfg.h c (rectPoints x0.toNat y0.toNat x1.toNat y1.toNat) s.fb
      replies := s.replies ++ [.op (.ok .unit)] } :=
  exec_live hl _

/-- Settles O36: the new framebuffer is that of painting the box. -/
theorem rectFillsItsBox : Obligations.RectFillsItsBox := by
  unfold Obligations.RectFillsItsBox
  refine ⟨fun c x0 y0 x1 y1 => by rw [encode, headerWord_toBit]; rfl, fun c x0 y0 x1 y1 s inv hl =>
    ⟨_, exec_rect_live hl c x0 y0 x1 y1, ?_⟩⟩
  obtain ⟨canonical, pixels⟩ := paintsExactly_paint inv.legal inv.memory c (rectPoints x0.toNat y0.toNat x1.toNat y1.toNat)
  refine ⟨canonical, fun backwards => ?_, fun x y hx hy => ?_⟩
  · rw [rectPoints_backwards backwards]
    rfl
  · exact (pixels x y hx hy).trans (if_congr mem_rectPoints rfl rfl)

/-! ## The three paths of RECT -/

/-- A page mask has exactly the bits `lo .. hi` (R166). -/
theorem pageMask_getLsbD {lo hi b : Nat} (hhi : hi ≤ 7) :
    (pageMask lo hi).getLsbD b = true ↔ lo ≤ b ∧ b ≤ hi := by
  have allOnes : (0xFF : Byte) = BitVec.allOnes 8 := rfl
  simp only [pageMask, allOnes, BitVec.getLsbD_and, BitVec.getLsbD_shiftLeft, BitVec.getLsbD_ushiftRight,
    BitVec.getLsbD_allOnes, Bool.and_eq_true, Bool.not_eq_true', decide_eq_true_eq, decide_eq_false_iff_not]
  omega

theorem pageHi_le (y1 page : Nat) : pageHi y1 page ≤ 7 := by
  unfold pageHi
  split <;> omega

/-- Of a page of the box, the page mask has the rows of the box (R166). -/
theorem mem_columnPoints_pageMask {x y0 y1 page px py : Nat} (h0 : y0 / 8 ≤ page) (h1 : page ≤ y1 / 8) :
    ((px : Int), (py : Int)) ∈ columnPoints x (page * 8) (pageMask (pageLo y0 page) (pageHi y1 page)) ↔
      px = x ∧ py / 8 = page ∧ y0 ≤ py ∧ py ≤ y1 := by
  rw [mem_columnPoints, pageMask_getLsbD (pageHi_le y1 page)]
  refine and_congr_right fun _ => ?_
  unfold pageLo pageHi
  split_ifs <;> omega

section
variable {cfg : Config} (hc : configLegal cfg = true) {fb : Mem} (hf : Mem.wf (fbSize cfg) fb = true) (c : Colour)
include hc hf

/-- One page row of the page path paints its columns. -/
theorem rectPage_eq_paint {x0 xb y0 y1 page : Nat} (hx : xb < cfg.w) (hp : page < pageCount cfg) :
    rectPage cfg.w x0 y0 xb y1 c fb page =
      paint cfg.w cfg.h c ((natsFromTo x0 xb).flatMap fun x =>
        columnPoints x (page * 8) (pageMask (pageLo y0 page) (pageHi y1 page))) fb := by
  refine foldl_eq_paint (height_mod_eight hc) (fun x hmem m hm => ?_) hf
  have column : x ≤ xb := (mem_natsFromTo.1 hmem).2
  exact applyMask_eq_paint_columnPoints hc hm hp (by omega) _ c

/-- The path of a box one pixel wide or high: a line (R166). -/
theorem paint_linePoints_eq_rect {x0 y0 x1 y1 : Nat} (hx : x0 ≤ x1) (hy : y0 ≤ y1) (thin : x0 = x1 ∨ y0 = y1) :
    paint cfg.w cfg.h c (linePoints x0 y0 x1 y1) fb = paint cfg.w cfg.h c (rectPoints x0 y0 x1 y1) fb := by
  refine paint_congr hc hf c fun x y _ _ => ?_
  rw [mem_rectPoints]
  obtain rfl | rfl := thin
  · rw [mem_linePoints_vertical]; dsimp only; omega
  · rw [mem_linePoints_horizontal]; dsimp only; omega

/-- The path of a box over several pages: page masks, clipped to the grid (R166). -/
theorem foldl_rectPage_eq_rect (x0 y0 x1 y1 : Nat) :
    ((natsFromTo (y0 / 8) (y1 / 8)).filter fun page => page < pageCount cfg).foldl
        (rectPage cfg.w x0 y0 (min x1 (cfg.w - 1)) y1 c) fb =
      paint cfg.w cfg.h c (rectPoints x0 y0 x1 y1) fb := by
  have hh := height_mod_eight hc
  have hw := width_pos hc
  have onGrid : min x1 (cfg.w - 1) < cfg.w := by omega
  rw [foldl_eq_paint (step := rectPage cfg.w x0 y0 (min x1 (cfg.w - 1)) y1 c) hh (fun page hmem m hm =>
    rectPage_eq_paint hc hm c onGrid (of_decide_eq_true (List.mem_filter.1 hmem).2)) hf]
  refine paint_congr hc hf c fun x y hx hy => ?_
  have page : y / 8 < pageCount cfg := by unfold pageCount; omega
  simp only [List.mem_flatMap, List.mem_filter, mem_natsFromTo, decide_eq_true_eq, mem_rectPoints]
  constructor
  · rintro ⟨page, ⟨⟨low, high⟩, -⟩, x, column, hmem⟩
    obtain ⟨rfl, -, rows⟩ := (mem_columnPoints_pageMask low high).1 hmem
    omega
  · rintro ⟨left, right, low, high⟩
    have inPages : y0 / 8 ≤ y / 8 ∧ y / 8 ≤ y1 / 8 := by omega
    exact ⟨y / 8, ⟨inPages, page⟩, x, by omega, (mem_columnPoints_pageMask inPages.1 inPages.2).2 ⟨rfl, rfl, low, high⟩⟩

/-- The path of a box within one page: row by row, each row taken into the integers (R166). -/
theorem foldl_rows_eq_rect {x0 x1 : Nat} (hx : x0 ≤ x1) (y0 y1 : Nat) :
    (natsFromTo y0 y1).foldl (fun m (y : Int) => paint cfg.w cfg.h c (linePoints x0 y x1 y) m) fb =
      paint cfg.w cfg.h c (rectPoints x0 y0 x1 y1) fb := by
  rw [foldl_eq_paint (height_mod_eight hc) (fun _ _ _ _ => rfl) hf]
  refine paint_congr hc hf c fun x y _ _ => ?_
  simp only [List.mem_flatMap, mem_natsFromTo_int, mem_linePoints_horizontal, mem_rectPoints]
  constructor
  · rintro ⟨row, rows, same, columns⟩
    omega
  · rintro ⟨left, right, low, high⟩
    exact ⟨y, by omega, rfl, by omega⟩

end

/-- Settles O37: one path for each branch of `RectPaths`. -/
theorem rectPathsGiveTheSameFramebuffer : Obligations.RectPathsGiveTheSameFramebuffer := by
  unfold Obligations.RectPathsGiveTheSameFramebuffer
  intro cfg c x0 y0 x1 y1 fb hc hf
  unfold rectPaths
  split_ifs with backwards thin pages
  · rw [rectPoints_backwards backwards]
    rfl
  · exact paint_linePoints_eq_rect hc hf c (by omega) (by omega) thin
  · exact foldl_rectPage_eq_rect hc hf c x0 y0 x1 y1
  · have ordered : x0 ≤ x1 := by omega
    exact foldl_rows_eq_rect hc hf c ordered y0 y1

end Sys2Proof.Machine
end

section
/-! SUPPORT. GLYPH (41_rasterizer.md R168 to R171): the pixels of its cell, its byte form, and the pages and columns it
writes. -/

namespace Sys2Proof.Machine

/-! ## The pixels of a cell -/

/-- The columns of a glyph are those of the table (R35, R169). -/
theorem glyphByte_eq_table (cfg : Config) {code i : Nat} (hcode : code < 128) (hi : i < 5) :
    glyphByte cfg code i = (cfg.glyph[code])[i] := by
  simp [glyphByte, hcode, hi]

/-- One column of a glyph, none off the grid. -/
def glyphColumnPoints (cfg : Config) (x y code i : Nat) : List (Int × Int) :=
  if x + i ≥ cfg.w then [] else columnPoints (x + i) y (glyphByte cfg code i)

theorem glyphPoints_eq_flatMap (cfg : Config) (x y code : Nat) :
    glyphPoints cfg x y code = (List.range 5).flatMap (glyphColumnPoints cfg x y code) := rfl

theorem mem_glyphPoints_nat {cfg : Config} {x y code px py : Nat} (hx : px < cfg.w) :
    ((px : Int), (py : Int)) ∈ glyphPoints cfg x y code ↔
      x ≤ px ∧ px ≤ x + 4 ∧ y ≤ py ∧ py ≤ y + 7 ∧ (glyphByte cfg code (px - x)).getLsbD (py - y) = true := by
  simp only [glyphPoints_eq_flatMap, List.mem_flatMap, List.mem_range]
  constructor
  · rintro ⟨i, hi, hmem⟩
    unfold glyphColumnPoints at hmem
    split at hmem
    · cases hmem
    · obtain ⟨rfl, below, bit⟩ := mem_columnPoints.1 hmem
      have row := BitVec.lt_of_getLsbD bit
      rw [Nat.add_sub_cancel_left]
      exact ⟨by omega, by omega, below, by omega, bit⟩
  · rintro ⟨left, right, below, -, bit⟩
    have column : x + (px - x) = px := Nat.add_sub_cancel' left
    refine ⟨px - x, by omega, ?_⟩
    rw [glyphColumnPoints, column, if_neg (not_le.2 hx)]
    exact mem_columnPoints.2 ⟨rfl, below, bit⟩

section
variable {s : State} (hl : s.live = true) (c : Colour) {x y code : Word16}
include hl

theorem exec_glyph_rejected (h : glyphRejects s.cfg x.toNat y.toNat code.toNat) :
    exec (.glyph c x y code) s = .next { s with replies := s.replies ++ [.op .invalidInput] } := by
  rw [exec_live hl, instrBody, glyphBody_rejected h]
  rfl

theorem exec_glyph_accepted (h : ¬ glyphRejects s.cfg x.toNat y.toNat code.toNat) :
    exec (.glyph c x y code) s = .next { s with
      fb := paint s.cfg.w s.cfg.h c (glyphPoints s.cfg x.toNat y.toNat code.toNat) s.fb
      replies := s.replies ++ [.op (.ok .unit)] } := by
  rw [exec_live hl, instrBody, glyphBody_accepted h]
  rfl

end

/-- Settles O38: the new framebuffer is that of painting the cell. -/
theorem glyphPaintsItsCell : Obligations.GlyphPaintsItsCell := by
  unfold Obligations.GlyphPaintsItsCell
  refine ⟨fun c x y code => by rw [encode, headerWord_toBit]; rfl, fun cfg k i hk hi => glyphByte_eq_table cfg hk hi,
    fun c x y code s inv hl => ⟨fun bad => exec_glyph_rejected hl c bad, fun hcode hx hy => ?_⟩⟩
  have accepted : ¬ glyphRejects s.cfg x.toNat y.toNat code.toNat := by unfold glyphRejects; omega
  obtain ⟨canonical, pixels⟩ :=
    paintsExactly_paint inv.legal inv.memory c (glyphPoints s.cfg x.toNat y.toNat code.toNat)
  exact ⟨_, exec_glyph_accepted hl c accepted, canonical, fun px py hpx hpy =>
    (pixels px py hpx hpy).trans (if_congr (mem_glyphPoints_nat hpx) rfl rfl)⟩

/-! ## The byte form -/

/-- The part of a shifted column in its anchor's page. -/
theorem mem_columnPoints_shiftLeft {x y px py : Nat} {g : Byte} :
    ((px : Int), (py : Int)) ∈ columnPoints x (y / 8 * 8) (g <<< (y % 8)) ↔
      py < (y / 8 + 1) * 8 ∧ ((px : Int), (py : Int)) ∈ columnPoints x y g := by
  simp only [mem_columnPoints, BitVec.getLsbD_shiftLeft, Bool.and_eq_true, Bool.not_eq_true', decide_eq_true_eq,
    decide_eq_false_iff_not]
  have row : y ≤ py → py - y / 8 * 8 - y % 8 = py - y := by omega
  constructor
  · rintro ⟨column, low, ⟨high, shifted⟩, bit⟩
    exact ⟨by omega, column, by omega, row (by omega) ▸ bit⟩
  · rintro ⟨high, column, below, bit⟩
    exact ⟨column, by omega, ⟨by omega, by omega⟩, (row below).symm ▸ bit⟩

/-- The part of a shifted column in the next page. -/
theorem mem_columnPoints_ushiftRight {x y px py : Nat} {g : Byte} :
    ((px : Int), (py : Int)) ∈ columnPoints x ((y / 8 + 1) * 8) (g >>> (8 - y % 8)) ↔
      (y / 8 + 1) * 8 ≤ py ∧ ((px : Int), (py : Int)) ∈ columnPoints x y g := by
  simp only [mem_columnPoints, BitVec.getLsbD_ushiftRight]
  have row : (y / 8 + 1) * 8 ≤ py → 8 - y % 8 + (py - (y / 8 + 1) * 8) = py - y := by omega
  constructor
  · rintro ⟨column, low, bit⟩
    exact ⟨low, column, by omega, row low ▸ bit⟩
  · rintro ⟨low, column, below, bit⟩
    exact ⟨column, low, (row low).symm ▸ bit⟩

section
variable {cfg : Config} (hc : configLegal cfg = true) {fb : Mem} (hf : Mem.wf (fbSize cfg) fb = true) (c : Colour)
include hc hf

/-- The two shifted updates of a column paint it, the second where rows of the grid are left for it (R170). -/
theorem glyphColumn_eq_paint {x y : Nat} (hx : x < cfg.w) (hy : y < cfg.h) (g : Byte) :
    glyphColumn cfg c x y g fb = paint cfg.w cfg.h c (columnPoints x y g) fb := by
  have hh := height_mod_eight hc
  have page : y / 8 < pageCount cfg := by unfold pageCount; omega
  unfold glyphColumn
  dsimp only
  rw [applyMask_eq_paint_columnPoints hc hf page hx]
  split_ifs with second
  · rw [applyMask_eq_paint_columnPoints hc (wf_paint hh hf c _) second.2 hx, ← paint_append]
    refine paint_congr hc hf c fun px py _ _ => ?_
    rw [List.mem_append, mem_columnPoints_shiftLeft, mem_columnPoints_ushiftRight, ← or_and_right]
    exact and_iff_right (lt_or_ge _ _)
  · refine paint_congr hc hf c fun px py _ hpy => ?_
    rw [mem_columnPoints_shiftLeft]
    refine and_iff_right_of_imp fun hmem => ?_
    obtain ⟨-, -, bit⟩ := mem_columnPoints.1 hmem
    have row := BitVec.lt_of_getLsbD bit
    unfold pageCount at second
    omega

/-- GLYPH's byte form paints GLYPH's pixels (R170). -/
theorem glyphBytes_eq_paint {y : Nat} (hy : y < cfg.h) (x code : Nat) :
    glyphBytes cfg c x y code fb = paint cfg.w cfg.h c (glyphPoints cfg x y code) fb := by
  refine foldl_eq_paint (height_mod_eight hc) (pts := glyphColumnPoints cfg x y code) (fun i _ m hm => ?_) hf
  unfold glyphColumnPoints
  split_ifs with off
  · rfl
  · exact glyphColumn_eq_paint hc hm c (not_le.1 off) hy _

end

/-- Settles O39. -/
theorem glyphBytesGiveTheSameFramebuffer : Obligations.GlyphBytesGiveTheSameFramebuffer := by
  unfold Obligations.GlyphBytesGiveTheSameFramebuffer
  exact fun cfg c x y code fb hc hf _ _ hy =>
    ⟨glyphBytes_eq_paint hc hf c hy x code, fun hk i hi => glyphByte_eq_table cfg hk hi⟩

/-! ## Pages and columns -/

/-- A byte with no pixel of the cell in it is as it was (R171). -/
theorem read_paint_glyphPoints {cfg : Config} (hc : configLegal cfg = true) {fb : Mem} (hf : Mem.wf (fbSize cfg) fb = true)
    (c : Colour) {x y i : Nat} (code : Nat)
    (off : ∀ b < 8, ¬ (x ≤ i % cfg.w ∧ i % cfg.w ≤ x + 4 ∧ y ≤ i / cfg.w * 8 + b ∧ i / cfg.w * 8 + b ≤ y + 7)) :
    Mem.read (paint cfg.w cfg.h c (glyphPoints cfg x y code) fb) i = Mem.read fb i := by
  refine read_paint_of_not_liesAt (height_mod_eight hc) hf c fun b p hp lies => ?_
  have bit : b < 8 := by have := lies.2.2; omega
  rw [lies.eq, mem_glyphPoints_nat (Nat.mod_lt i (width_pos hc))] at hp
  obtain ⟨left, right, below, above, -⟩ := hp
  exact off b bit ⟨left, right, below, above⟩

/-- The two bytes that hold the rows `y .. y+7` of a column, shifted back, give those rows (R171). -/
theorem shifted_union_eq {w x y : Nat} {fb : Mem} {g : Byte}
    (rows : ∀ k < 8, pixelAt w fb x (y + k) = BitVec.ofBool (g.getLsbD k)) :
    (Mem.read fb (y / 8 * w + x) >>> (y % 8)) ||| (Mem.read fb ((y / 8 + 1) * w + x) <<< (8 - y % 8)) = g := by
  refine BitVec.eq_of_getLsbD_eq fun k hk => ?_
  have row := rows k hk
  rw [pixelAt_eq_ofBool, BitVec.ofBool_eq_iff_eq, pixelIndex, Nat.mul_comm] at row
  rw [← row, BitVec.getLsbD_or, BitVec.getLsbD_ushiftRight, BitVec.getLsbD_shiftLeft]
  by_cases upper : y % 8 + k < 8
  · have page : (y + k) / 8 = y / 8 := by omega
    have bit : (y + k) % 8 = y % 8 + k := by omega
    have notLower : k < 8 - y % 8 := by omega
    simp [page, bit, notLower]
  · have page : (y + k) / 8 = y / 8 + 1 := by omega
    have bit : (y + k) % 8 = k - (8 - y % 8) := by omega
    have lower : ¬ k < 8 - y % 8 := by omega
    simp [page, bit, lower, hk, BitVec.getLsbD_of_ge _ _ (not_lt.1 upper)]

/-- In a clear cell, SET leaves the bits of the glyph (R171). -/
theorem pixelAt_paint_glyphPoints {cfg : Config} (hc : configLegal cfg = true) {fb : Mem}
    (hf : Mem.wf (fbSize cfg) fb = true) {x y i k : Nat} (code : Nat) (hi : i < 5) (hk : k < 8) (hx : x + i < cfg.w)
    (hy : y + k < cfg.h) (clear : pixelAt cfg.w fb (x + i) (y + k) = 0) :
    pixelAt cfg.w (paint cfg.w cfg.h .set (glyphPoints cfg x y code) fb) (x + i) (y + k) =
      BitVec.ofBool ((glyphByte cfg code i).getLsbD k) := by
  have cell : (((x + i : Nat) : Int), ((y + k : Nat) : Int)) ∈ glyphPoints cfg x y code ↔
      (glyphByte cfg code i).getLsbD k = true := by
    rw [mem_glyphPoints_nat hx, Nat.add_sub_cancel_left, Nat.add_sub_cancel_left]
    exact ⟨fun h => h.2.2.2.2, fun bit => ⟨by omega, by omega, by omega, by omega, bit⟩⟩
  rw [(paintsExactly_paint hc hf .set _).2 _ _ hx hy, clear, if_congr cell rfl rfl]
  cases (glyphByte cfg code i).getLsbD k <;> rfl

/-- Settles O40: a rejected GLYPH changes no byte, and an accepted one those of its cell. -/
theorem glyphPageLaws : Obligations.GlyphPageLaws := by
  unfold Obligations.GlyphPageLaws
  refine ⟨fun cfg k i hk hi => glyphByte_eq_table cfg hk hi, fun c x y code s t inv hl step => ?_⟩
  by_cases bad : glyphRejects s.cfg x.toNat y.toNat code.toNat
  · rw [exec_glyph_rejected hl c bad] at step
    cases step
    exact ⟨fun _ _ _ => rfl, fun _ _ => ⟨fun _ _ _ => rfl, fun _ good => absurd bad good⟩, fun _ _ => rfl, fun _ => rfl⟩
  · rw [exec_glyph_accepted hl c bad] at step
    cases step
    have hw := width_pos inv.legal
    refine ⟨fun aligned i hi => ?alignedPage, fun shifted next => ⟨fun i hi hi' => ?shiftedPages, ?union⟩,
      fun i hi => ?columns, fun answer => ?answer⟩
    case alignedPage => exact read_paint_glyphPoints inv.legal inv.memory c _ (by omega)
    case shiftedPages => exact read_paint_glyphPoints inv.legal inv.memory c _ (by omega)
    case columns =>
      have column := Nat.mod_lt i hw
      exact read_paint_glyphPoints inv.legal inv.memory c _ (by omega)
    case answer => simp at answer
    case union =>
      rintro rfl - clear i hi hx
      unfold pageCount at next
      rw [Nat.add_assoc, Nat.add_assoc]
      exact shifted_union_eq fun k hk =>
        pixelAt_paint_glyphPoints inv.legal inv.memory _ hi hk hx (by omega) (clear i hi k hk hx)

end Sys2Proof.Machine
end

section
/-! SUPPORT. The chunks of a payload (42_framer.md R213): how many, which bytes, and how long. -/

namespace Sys2Proof.Machine

/-! ## How many chunks, and which bytes -/

/-- The bytes of chunk `k`: at most `c` of them, from `k*c` on (R213). -/
def chunkAt (c : Nat) (s : List Byte) (k : Nat) : List Byte := (s.drop (k * c)).take c

theorem chunks_eq_map (c : Nat) (s : List Byte) :
    chunks c s = (List.range ((s.length + c - 1) / c)).map (chunkAt c s) := rfl

theorem chunks_length (c : Nat) (s : List Byte) : (chunks c s).length = (s.length + c - 1) / c := by
  simp [chunks_eq_map]

theorem chunks_getElem? {c : Nat} {s : List Byte} {k : Nat} (hk : k < (chunks c s).length) :
    (chunks c s)[k]? = some (chunkAt c s k) := by
  rw [chunks_length] at hk
  simp [chunks_eq_map, hk]

theorem chunks_getD {c : Nat} {s : List Byte} {k : Nat} (hk : k < (chunks c s).length) :
    (chunks c s).getD k [] = chunkAt c s k := by
  simp [List.getD, chunks_getElem? hk]

/-- There is a chunk `k` exactly where the payload reaches past the `k` chunks before it. -/
theorem lt_chunks_length_iff {c : Nat} (hc : 1 ≤ c) (s : List Byte) (k : Nat) :
    k < (chunks c s).length ↔ k * c < s.length := by
  have next : (k + 1) * c = k * c + c := Nat.succ_mul k c
  rw [chunks_length, Nat.lt_iff_add_one_le, Nat.le_div_iff_mul_le hc, next]
  omega

/-- The first `n` slices are the first `n*c` bytes. -/
theorem flatten_map_chunkAt (c : Nat) (s : List Byte) (n : Nat) :
    ((List.range n).map (chunkAt c s)).flatten = s.take (n * c) := by
  induction n with
  | zero => simp
  | succ n ih => simp [List.range_succ, ih, chunkAt, Nat.succ_mul, List.take_add]

/-- The chunks in order are the payload (R213). -/
theorem chunks_flatten {c : Nat} (hc : 1 ≤ c) (s : List Byte) : (chunks c s).flatten = s := by
  have reach : s.length ≤ (chunks c s).length * c := by simpa using mt (lt_chunks_length_iff hc s _).2 (lt_irrefl _)
  rw [chunks_length] at reach
  rw [chunks_eq_map, flatten_map_chunkAt, List.take_of_length_le reach]

/-! ## How long the chunks are -/

theorem chunkAt_length (c : Nat) (s : List Byte) (k : Nat) : (chunkAt c s k).length = min c (s.length - k * c) := by
  simp [chunkAt]

/-- Every chunk is one of the slices. -/
theorem exists_chunkAt_of_mem_chunks {c : Nat} {s p : List Byte} (hp : p ∈ chunks c s) : ∃ k, p = chunkAt c s k := by
  rw [chunks_eq_map, List.mem_map] at hp
  obtain ⟨k, -, rfl⟩ := hp
  exact ⟨k, rfl⟩

/-- No chunk is longer than the chunk size. -/
theorem length_le_of_mem_chunks {c : Nat} {s p : List Byte} (hp : p ∈ chunks c s) : p.length ≤ c := by
  obtain ⟨k, rfl⟩ := exists_chunkAt_of_mem_chunks hp
  exact (chunkAt_length c s k).trans_le (min_le_left ..)

/-- Where a number divides the chunk size and the payload's length, it divides the length of every chunk. -/
theorem dvd_length_of_mem_chunks {d c : Nat} {s p : List Byte} (hc : d ∣ c) (hs : d ∣ s.length) (hp : p ∈ chunks c s) :
    d ∣ p.length := by
  obtain ⟨k, rfl⟩ := exists_chunkAt_of_mem_chunks hp
  rw [chunkAt_length]
  rcases min_choice c (s.length - k * c) with h | h <;> rw [h]
  · exact hc
  · exact Nat.dvd_sub hs (hc.mul_left k)

/-- Settles O42: a chunk that is not the last has another behind it, so the payload reaches past its end; the last ends where
the payload ends. -/
theorem chunksOfAPayload : Obligations.ChunksOfAPayload := by
  unfold Obligations.ChunksOfAPayload
  intro c s hc
  have starts := lt_chunks_length_iff hc s
  refine ⟨chunks_length c s, chunks_flatten hc s, fun k hk => ?full, fun k hk => ?last, fun k hk => ?slice⟩
  case full =>
    have past : (k + 1) * c < s.length := (starts _).1 hk
    rw [Nat.succ_mul] at past
    rw [chunks_getD (by omega), chunkAt_length]
    omega
  case last =>
    have start : k * c < s.length := (starts k).1 (by omega)
    have ends : ¬ (k + 1) * c < s.length := fun past => by have := (starts _).2 past; omega
    rw [Nat.succ_mul] at ends
    rw [← chunks_length, ← hk, Nat.add_sub_cancel, chunks_getD (by omega), chunkAt_length]
    omega
  case slice =>
    rw [chunks_getD hk, chunkAt, List.take_eq_take_iff, List.length_drop, Nat.succ_mul]
    omega

end Sys2Proof.Machine
end

section
/-! SUPPORT. The framer operations of a living block (42_framer.md R214 to R219): the frames each sends by its draws, the mark
OVERSIZE, and what depends on the interface. -/

namespace Sys2Proof.Machine

/-! ## Without an interface -/

/-- A framer operation without an interface answers NO_INTERFACE alone (R219, R255). -/
theorem exec_framer_noInterface {i : Instr} {s : State} (hi : isFramer i = true) (hl : s.live = true)
    (hn : s.cfg.iface = .none) : exec i s = .next { s with replies := s.replies ++ [.op .noInterface] } := by
  obtain ⟨kind, frames, hb⟩ := instrBody_framer hi
  rw [exec_live hl, hb]
  dsimp only
  rw [withInterface_none hn]
  rfl

/-- The same state with another interface kind. -/
def State.withIface (f : Iface) (s : State) : State := { s with cfg := { s.cfg with iface := f } }

/-- A drawing or reading operation does the same whatever the interface is. -/
theorem instrBody_withIface {i : Instr} (hi : isFramer i = false) (f : Iface) (s : State) :
    instrBody i (s.withIface f) = ((instrBody i s).1, (instrBody i s).2.withIface f) := by
  cases i with
  | clear _ | point _ _ _ | query _ _ | snapshot | line _ _ _ _ _ | circle _ _ _ _ | rect _ _ _ _ _ => rfl
  | glyph c x y code =>
    by_cases hr : glyphRejects s.cfg x.toNat y.toNat code.toNat
    · simp only [instrBody, glyphBody_rejected hr, glyphBody_rejected (s := s.withIface f) hr]
    · simp only [instrBody, glyphBody_accepted hr, glyphBody_accepted (s := s.withIface f) hr]; rfl
  | sendCmd _ | sendData _ | sendChunked _ | flush => cases hi

theorem answer_withIface (r : Option Result) (f : Iface) (s : State) :
    (s.withIface f).answer r = (s.answer r).withIface f := by cases r <;> rfl

/-- Issued to a block that lives or not, it does the same. -/
theorem issue_withIface {i : Instr} (hi : isFramer i = false) (f : Iface) (s : State) :
    issue (instrBody i) (s.withIface f) = ((issue (instrBody i) s).1, (issue (instrBody i) s).2.withIface f) := by
  cases hl : s.live with
  | false => rw [issue_dead hl, issue_dead (s := s.withIface f) hl]; rfl
  | true => rw [issue_live hl, issue_live (s := s.withIface f) hl, instrBody_withIface hi, answer_withIface]

/-- Settles O49: a framer operation's body asks for the interface first, and no other body looks at it. -/
theorem noInterfaceNoWrite : Obligations.NoInterfaceNoWrite := by
  unfold Obligations.NoInterfaceNoWrite
  refine ⟨fun i s hi hl hn => exec_framer_noInterface hi hl hn, fun i s f hi => ?_⟩
  have run : exec i s = .next (issue (instrBody i) s).2 := exec_eq_runOp i s
  have cfg : (issue (instrBody i) s).2.cfg = s.cfg := (evolves_exec run).1.cfg
  refine ⟨_, run, cfg, ?_⟩
  calc exec i (s.withIface f)
    _ = .next ((issue (instrBody i) s).2.withIface f) := by rw [exec_eq_runOp, runOp, issue_withIface hi]
    _ = _ := by rw [State.withIface, cfg]

/-! ## With an interface -/

/-- An operation whose body sends frames: all of them, or those up to the first that fails or never returns (R214 to R217). -/
theorem sendsFrames_exec {i : Instr} {s : State} {kind : FrameKind} {frames : List (List Byte)} (hl : s.live = true)
    (hi : s.cfg.iface = .bus) (hb : instrBody i s = withInterface (sendAll kind 0 frames) s) :
    SendsFrames (exec i s) s kind frames := by
  rw [exec_live hl, hb, withInterface_bus hi]
  refine ⟨fun ok => ?_, fun k e hk ok err => ?_, fun k hk ok never => ?_⟩
  · rw [sendAll_ok kind frames 0 s ok]
    simp [State.reply]
  · rw [sendAll_err kind frames 0 s k e hk ok err]
    simp [State.reply]
  · rw [sendAll_never kind frames 0 s k hk ok never]
    rfl

/-- Settles O43: its body sends the payload as the one command frame. -/
theorem sendCmdSendsOneFrame : Obligations.SendCmdSendsOneFrame := by
  unfold Obligations.SendCmdSendsOneFrame
  exact ⟨fun p => rfl, fun p s hl => ⟨exec_framer_noInterface rfl hl, fun hi => sendsFrames_exec hl hi rfl⟩⟩

/-- Settles O44: its body sends the payload as the one data frame. -/
theorem sendDataSendsOneFrame : Obligations.SendDataSendsOneFrame := by
  unfold Obligations.SendDataSendsOneFrame
  exact ⟨fun p => rfl, fun p s hl => ⟨exec_framer_noInterface rfl hl, fun hi => sendsFrames_exec hl hi rfl⟩⟩

/-- A chunk fits a transfer in a legal configuration (R10, R31). -/
theorem chunk_le_maxXfer {cfg : Config} (h : configLegal cfg = true) : cfg.chunk ≤ cfg.maxXfer := by
  simp only [configLegal, Bool.and_eq_true, decide_eq_true_eq] at h
  tauto

/-- No chunk is longer than `MAX_XFER` (R216). -/
theorem anyOversize_chunks {cfg : Config} (h : configLegal cfg = true) (s : List Byte) :
    anyOversize cfg (chunks cfg.chunk s) = false := by
  simp only [anyOversize, List.any_eq_false, decide_eq_true_eq, not_lt]
  exact fun p hp => (length_le_of_mem_chunks hp).trans (chunk_le_maxXfer h)

/-- Settles O45: its body sends the chunks, none of them longer than the chunk size. -/
theorem sendChunkedSendsTheChunks : Obligations.SendChunkedSendsTheChunks := by
  unfold Obligations.SendChunkedSendsTheChunks
  exact ⟨fun p => rfl, fun p s hl => ⟨exec_framer_noInterface rfl hl, fun hi => sendsFrames_exec hl hi rfl,
    fun hc => anyOversize_chunks hc p⟩⟩

/-! ## FLUSH -/

theorem sendsFrames_flush {s : State} (hl : s.live = true) (hi : s.cfg.iface = .bus) :
    SendsFrames (exec .flush s) s .data (chunks s.cfg.chunk (Mem.bytes (fbSize s.cfg) s.fb)) :=
  sendsFrames_exec hl hi rfl

/-- Both sides are multiples of 8, so the framebuffer has a multiple of 8 bytes (R8, R9). -/
theorem eight_dvd_fbSize {cfg : Config} (h : configLegal cfg = true) : 8 ∣ fbSize cfg := by
  have width : 8 ∣ cfg.w := by
    simp only [configLegal, sideLegal, Bool.and_eq_true, decide_eq_true_eq] at h
    omega
  rw [fbSize_eq_width_mul_pageCount (height_mod_eight h)]
  exact width.mul_right _

/-- Settles O46: a frame in chunks of 32 has a multiple of 8 bytes, never one. -/
theorem flushSendsTheFramebuffer : Obligations.FlushSendsTheFramebuffer := by
  unfold Obligations.FlushSendsTheFramebuffer
  refine ⟨rfl, fun s hl => ⟨exec_framer_noInterface rfl hl, sendsFrames_flush hl, fun _ => ?count, fun hc h32 p hp => ?multi⟩⟩
  case count => rw [chunks_length, List.length_map, List.length_range]
  case multi =>
    have whole : 8 ∣ p.length := dvd_length_of_mem_chunks (by rw [h32]; decide) (by simpa using eight_dvd_fbSize hc) hp
    exact (selectPfx_multi s.cfg (by omega)).2

/-- A chunk of the framebuffer that is not cut short holds the `c` bytes from `k*c` on (R65, R217). -/
theorem chunkAt_bytes {c nb k : Nat} (m : Mem) (h : k * c + c ≤ nb) :
    chunkAt c (Mem.bytes nb m) k = (List.range c).map fun j => Mem.read m (k * c + j) := by
  refine List.ext_getElem ?_ fun j _ _ => ?_
  · rw [chunkAt_length, bytes_length, List.length_map, List.length_range]
    omega
  · simp [chunkAt, Mem.bytes]

/-- Settles O47: 1024 bytes make 32 chunks, none of them cut short. -/
theorem fullFrameIsThirtyTwoDataFrames : Obligations.FullFrameIsThirtyTwoDataFrames := by
  unfold Obligations.FullFrameIsThirtyTwoDataFrames
  intro s hl hi hw hh hc ok
  have size : fbSize s.cfg = 1024 := by rw [fbSize, hw, hh]
  have count : (chunks 32 (Mem.bytes 1024 s.fb)).length = 32 := by rw [chunks_length, bytes_length]
  obtain ⟨sent, -, -⟩ := sendsFrames_flush hl hi
  rw [hc, size, count] at sent
  refine ⟨_, sent ok, by simp [count], by simp, fun k hk => ?_⟩
  have slice := chunkAt_bytes (c := 32) (nb := 1024) (k := k) s.fb (by omega)
  have pfx : selectPfx s.cfg .data 32 = s.cfg.pfxDataMulti := (selectPfx_multi s.cfg (by decide)).2
  simp [List.getElem?_append_right, chunks_getElem? (count.symm ▸ hk), slice, frameEntry, pfx, Nat.mul_comm k 32]

/-! ## OVERSIZE -/

/-- Frames that all fit a transfer leave OVERSIZE as it was (R218). -/
theorem withInterface_sendAll_oversize {kind : FrameKind} {k : Nat} {frames : List (List Byte)} {s : State}
    (h : anyOversize s.cfg frames = false) : (withInterface (sendAll kind k frames) s).2.oversize = s.oversize := by
  simp only [anyOversize, List.any_eq_false] at h
  unfold withInterface
  split
  · rfl
  · refine (sendAll_keeps (P := fun t => t.cfg = s.cfg ∧ t.oversize = s.oversize) kind frames (fun p hp t ht => ?_) k s
      ⟨rfl, rfl⟩).2
    obtain ⟨cfg, mark⟩ := ht
    have short := h p hp
    rw [sendFrame_cfg, sendFrame_oversize, cfg, mark]
    exact ⟨rfl, by rw [Bool.eq_false_iff.2 short, Bool.or_false]⟩

/-- An operation's one frame leaves the state that the frame leaves. -/
theorem sendAll_singleton_state (kind : FrameKind) (k : Nat) (p : List Byte) (s : State) :
    (sendAll kind k [p] s).2 = (sendFrame kind p s).2 := by
  unfold sendAll
  split <;> rfl

/-- The operations but SENDCMD and SENDDATA leave OVERSIZE as it was (R216, R218). -/
theorem instrBody_oversize {i : Instr} {s : State} (hc : configLegal s.cfg = true) (cmd : ∀ p, i ≠ .sendCmd p)
    (data : ∀ p, i ≠ .sendData p) : (instrBody i s).2.oversize = s.oversize := by
  cases hi : isFramer i with
  | false =>
    obtain ⟨r, fb, hb, -⟩ := instrBody_drawing hi s
    rw [hb]
  | true =>
    cases i with
    | sendCmd p => exact absurd rfl (cmd p)
    | sendData p => exact absurd rfl (data p)
    | sendChunked p => exact withInterface_sendAll_oversize (anyOversize_chunks hc p)
    | flush => exact withInterface_sendAll_oversize (anyOversize_chunks hc s.snapshot)
    | clear _ | point _ _ _ | query _ _ | snapshot | line _ _ _ _ _ | circle _ _ _ _ | rect _ _ _ _ _ | glyph _ _ _ _ =>
      cases hi

/-- SENDCMD and SENDDATA set OVERSIZE exactly where their one frame is too long (R218). -/
theorem instrBody_singleFrame_oversize {i : Instr} {p : List Byte} {s : State} (hp : i = .sendCmd p ∨ i = .sendData p)
    (hi : s.cfg.iface = .bus) :
    (instrBody i s).2.oversize = (s.oversize || decide (p.length > s.cfg.maxXfer)) := by
  rcases hp with rfl | rfl
  · rw [instrBody, sendCmdBody, withInterface_bus hi, sendAll_singleton_state, sendFrame_oversize]
  · rw [instrBody, sendDataBody, withInterface_bus hi, sendAll_singleton_state, sendFrame_oversize]

/-- Settles O48: the answer does not touch the mark, and neither does an operation of a block that does not live. -/
theorem oversizeBySingleFramesOnly : Obligations.OversizeBySingleFramesOnly := by
  unfold Obligations.OversizeBySingleFramesOnly
  intro i s t hc ht
  cases hl : s.live with
  | false =>
    rw [exec_dead hl] at ht
    cases ht
    exact ⟨fun _ _ => rfl, nofun⟩
  | true =>
    rw [exec_live hl] at ht
    cases ht
    rw [state_answer_oversize]
    exact ⟨instrBody_oversize hc, fun p hp _ hi => instrBody_singleFrame_oversize hp hi⟩

end Sys2Proof.Machine
end

section
/-! SUPPORT. How an operation fails (60_exceptions.md R251 to R257): each way it can end with a result other than OK, and what
the state is then. -/

namespace Sys2Proof.Machine

/-! ## The ways to fail -/

/-- Why an operation issued to a living block returns a result other than OK (R251, R252, R253, R255). -/
inductive State.Fails (s : State) : Instr → Result → Prop
  | rejected {c : Colour} {x y code : Word16} (bad : glyphRejects s.cfg x.toNat y.toNat code.toNat) :
      s.Fails (.glyph c x y code) .invalidInput
  | offGrid {x y : Word16} (off : x.toNat ≥ s.cfg.w ∨ y.toNat ≥ s.cfg.h) : s.Fails (.query x y) .outOfRange
  | noInterface {i : Instr} (framer : isFramer i = true) (iface : s.cfg.iface = .none) : s.Fails i .noInterface
  | transport {i : Instr} {kind : FrameKind} {frames : List (List Byte)} {k : Nat} {e : IoError} (framer : isFramer i = true)
      (iface : s.cfg.iface = .bus) (sends : instrBody i s = withInterface (sendAll kind 0 frames) s) (hk : k < frames.length)
      (ok : s.okBefore k) (err : s.drawAt k = .returns (.err e)) : s.Fails i (.transportError k e)

/-- No way to fail is OK. -/
theorem State.Fails.ne_ok {s : State} {i : Instr} {r : Result} (h : s.Fails i r) (v : OkValue) : r ≠ .ok v := by
  cases h <;> nofun

/-- The next `n` collaborator calls all return `ok`, or there is a first that does not. -/
theorem okBefore_or_exists_first_failure (s : State) (n : Nat) :
    s.okBefore n ∨ ∃ k < n, s.okBefore k ∧ s.drawAt k ≠ .returns .ok := by
  induction n with
  | zero => exact .inl nofun
  | succ n ih =>
    obtain ok | ⟨k, hk, failure⟩ := ih
    · by_cases last : s.drawAt n = .returns .ok
      · exact .inl fun j hj => (Nat.lt_succ_iff_lt_or_eq.1 hj).elim (ok j) (· ▸ last)
      · exact .inr ⟨n, n.lt_succ_self, ok, last⟩
    · exact .inr ⟨k, hk.trans n.lt_succ_self, failure⟩

/-- The result of an operation's frames: OK, or the first write that fails (R216, R217, R220). -/
theorem sendAll_result {kind : FrameKind} {frames : List (List Byte)} {s : State} {r : Result}
    (h : (sendAll kind 0 frames s).1 = some r) :
    r = .ok .unit ∨
      ∃ k e, r = .transportError k e ∧ k < frames.length ∧ s.okBefore k ∧ s.drawAt k = .returns (.err e) := by
  obtain ok | ⟨k, hk, ok, failure⟩ := okBefore_or_exists_first_failure s frames.length
  · rw [sendAll_ok kind frames 0 s ok] at h
    exact .inl (Option.some.inj h).symm
  · match hd : s.drawAt k with
    | .returns .ok => exact absurd hd failure
    | .returns (.err e) =>
      rw [sendAll_err kind frames 0 s k e hk ok hd, Nat.zero_add] at h
      exact .inr ⟨k, e, (Option.some.inj h).symm, hk, ok, hd⟩
    | .never =>
      rw [sendAll_never kind frames 0 s k hk ok hd] at h
      cases h

/-- A framer operation that returns a result returns OK with nothing beside it, or fails. -/
theorem instrBody_framer_result {i : Instr} {s : State} {r : Result} (hi : isFramer i = true)
    (h : (instrBody i s).1 = some r) : r = .ok .unit ∨ s.Fails i r := by
  obtain ⟨kind, frames, hb⟩ := instrBody_framer hi
  have sends := congrFun hb s
  cases iface : s.cfg.iface with
  | none =>
    rw [sends, withInterface_none iface] at h
    cases h
    exact .inr (.noInterface hi iface)
  | bus =>
    rw [sends, withInterface_bus iface] at h
    obtain rfl | ⟨k, e, rfl, hk, ok, err⟩ := sendAll_result h
    · exact .inl rfl
    · exact .inr (.transport hi iface sends hk ok err)

/-- Every operation that returns a result returns OK or fails. -/
theorem instrBody_result {i : Instr} {s : State} {r : Result} (h : (instrBody i s).1 = some r) :
    (∃ v, r = .ok v) ∨ s.Fails i r := by
  cases i with
  | clear _ | point _ _ _ | line _ _ _ _ _ | circle _ _ _ _ | rect _ _ _ _ _ | snapshot =>
    exact .inl ⟨_, (Option.some.inj h).symm⟩
  | query x y =>
    have result := (Option.some.inj h).symm
    by_cases on : x.toNat < s.cfg.w ∧ y.toNat < s.cfg.h
    · exact .inl ⟨_, result.trans (if_pos on)⟩
    · rw [result, if_neg on]
      exact .inr (.offGrid (by omega))
  | glyph c x y code =>
    by_cases bad : glyphRejects s.cfg x.toNat y.toNat code.toNat
    · rw [instrBody, glyphBody_rejected bad] at h
      cases h
      exact .inr (.rejected bad)
    · rw [instrBody, glyphBody_accepted bad] at h
      exact .inl ⟨_, (Option.some.inj h).symm⟩
  | sendCmd _ | sendData _ | sendChunked _ | flush =>
    exact (instrBody_framer_result rfl h).imp_left fun ok => ⟨_, ok⟩

/-! ## The answer and the state after it -/

/-- The answer a state gained from an operation's body is the body's result. -/
theorem result_of_replies_answer {i : Instr} {s : State} {r : Result}
    (h : ((instrBody i s).2.answer (instrBody i s).1).replies = s.replies ++ [.op r]) : (instrBody i s).1 = some r := by
  cases hr : (instrBody i s).1 with
  | none => simp [hr] at h
  | some r' => simpa [hr] using h

/-- A state that gained no answer from an operation's body had no result from it. -/
theorem result_none_of_replies_answer {i : Instr} {s : State}
    (h : ((instrBody i s).2.answer (instrBody i s).1).replies = s.replies) : (instrBody i s).1 = none := by
  cases hr : (instrBody i s).1 with
  | none => rfl
  | some r => simp [hr] at h

/-- An operation that answers was issued to a living block, and the answer is its body's result (R37, R39). -/
theorem result_of_exec {i : Instr} {s t : State} {r : Result} (ht : exec i s = .next t)
    (hr : t.replies = s.replies ++ [.op r]) : s.live = true ∧ (instrBody i s).1 = some r := by
  cases hl : s.live with
  | false =>
    rw [exec_dead hl] at ht
    cases ht
    simp at hr
  | true =>
    rw [exec_live hl] at ht
    cases ht
    exact ⟨rfl, result_of_replies_answer hr⟩

/-- An operation that answers anything but OK fails. -/
theorem fails_of_exec {i : Instr} {s t : State} {r : Result} (ht : exec i s = .next t)
    (hr : t.replies = s.replies ++ [.op r]) (error : ∀ v, r ≠ .ok v) : s.Fails i r :=
  (instrBody_result (result_of_exec ht hr).2).resolve_left fun ⟨v, ok⟩ => error v ok

/-- An operation gives one answer: what it answers in one description of its step is what it answers in another. -/
theorem answer_unique {i : Instr} {s t : State} {r r' : Result} (ht : exec i s = .next t)
    (hr : t.replies = s.replies ++ [.op r]) (h : exec i s = .next { s with replies := s.replies ++ [.op r'] }) : r = r' := by
  rw [h] at ht
  cases ht
  simpa using hr.symm

/-- A failure that is not the transport's leaves everything as it was but the answers (R257). -/
theorem State.Fails.exec_unchanged {i : Instr} {s : State} {r : Result} (h : s.Fails i r) (hl : s.live = true)
    (notTransport : ∀ k e, r ≠ .transportError k e) : exec i s = .next { s with replies := s.replies ++ [.op r] } := by
  cases h with
  | rejected bad => exact exec_glyph_rejected hl _ bad
  | offGrid off => exact exec_query_offGrid hl off
  | noInterface framer iface => exact exec_framer_noInterface framer hl iface
  | transport => exact absurd rfl (notTransport _ _)

/-- After TRANSPORT_ERROR(k, e) the framebuffer and the configuration are as they were, and TXLOG has gained `k` writes that
went well and one that failed (R257). -/
theorem State.Fails.transport_log {i : Instr} {s t : State} {k : Nat} {e : IoError} (h : s.Fails i (.transportError k e))
    (hl : s.live = true) (ht : exec i s = .next t) :
    t.fb = s.fb ∧ t.cfg = s.cfg ∧ ∃ sent last, sent.length = k ∧ (∀ w ∈ sent, TxEntry.outcome w = .ok) ∧
      TxEntry.outcome last = .err e ∧ t.txLog = s.txLog ++ (sent ++ [last]) := by
  cases h with
  | @transport _ kind frames _ _ framer iface sends hk ok err =>
    rw [(sendsFrames_exec hl iface sends).2.1 k e hk ok err] at ht
    cases ht
    refine ⟨by simp, by simp, (frames.take k).map (frameEntry s.cfg kind .ok), _, ?_, ?_, rfl, List.append_assoc ..⟩
    · rw [List.length_map, List.length_take_of_le hk.le]
    · exact List.forall_mem_map.2 fun _ _ => rfl

/-- Settles O54: an operation that answers anything but OK fails in one of the four ways, the transport's apart. -/
theorem stateAfterAnError : Obligations.StateAfterAnError := by
  unfold Obligations.StateAfterAnError
  intro i s t r ht hr
  have hl : s.live = true := (result_of_exec ht hr).1
  refine ⟨fun named => ?unchanged, fun k e hre => ?transport⟩
  case unchanged =>
    have same := (fails_of_exec ht hr (by rintro v rfl; simp at named)).exec_unchanged hl (by rintro k e rfl; simp at named)
    rw [ht] at same
    exact Host.Outcome.next.inj same
  case transport =>
    subst hre
    obtain ⟨fb, cfg, sent, last, rfl, allOk, failed, log⟩ := (fails_of_exec ht hr nofun).transport_log hl ht
    refine ⟨fb, cfg, by simp [log], fun j hj => ?_, by simp [log, failed]⟩
    have hj' : sent[j]? = some sent[j] := List.getElem?_eq_getElem hj
    rw [log, List.getElem?_append_right (by omega), Nat.add_sub_cancel_left, List.getElem?_append_left hj, hj', Option.map_some,
      allOk _ (List.getElem_mem hj)]

/-- Settles O55: each result other than OK has its one way to fail, and the three that are not the transport's are
certain to be answered. -/
theorem whoReturnsWhichError : Obligations.WhoReturnsWhichError := by
  unfold Obligations.WhoReturnsWhichError
  intro i s t r hl ht hr
  have fails : (∀ v, r ≠ .ok v) → s.Fails i r := fails_of_exec ht hr
  refine ⟨⟨?glyph, ?_⟩, ⟨?query, ?_⟩, ⟨?framer, ?_⟩, ?transport, ?illegal⟩
  case glyph =>
    rintro rfl
    cases fails nofun with
    | rejected bad => exact ⟨_, _, _, _, rfl, bad⟩
  case query =>
    rintro rfl
    cases fails nofun with
    | offGrid off => exact ⟨_, _, rfl, off⟩
  case framer =>
    rintro rfl
    cases fails nofun with
    | noInterface framer iface => exact ⟨framer, iface⟩
  case transport =>
    rintro k e rfl
    cases fails nofun with
    | transport framer iface => exact ⟨framer, iface⟩
  case illegal =>
    rintro rfl
    cases fails nofun
  · rintro ⟨c, x, y, code, rfl, bad⟩
    exact answer_unique ht hr (exec_glyph_rejected hl c bad)
  · rintro ⟨x, y, rfl, off⟩
    exact answer_unique ht hr (exec_query_offGrid hl off)
  · rintro ⟨framer, iface⟩
    exact answer_unique ht hr (exec_framer_noInterface framer hl iface)

/-! ## FLUSH in a session -/

/-- The state in which `draw` issues FLUSH (R279). -/
def State.flushing (s : State) : State := { s with session := .flushing }

/-- `draw` in Active issues FLUSH to the living block and ends with what it gave (R279). -/
theorem sessionCall_draw_active {s : State} (ha : s.session = .active) (hl : s.live = true) :
    sessionCall .draw s = .next (drawEnd ((instrBody .flush s.flushing).1,
      (instrBody .flush s.flushing).2.answer (instrBody .flush s.flushing).1)) := by
  rw [sessionCall, drawCall, if_pos ha, issue_live (by exact hl)]
  rfl

/-- `draw` returns what FLUSH returned, OK as its own ok (R279, R280). -/
theorem drawEnd_some {u : State} {r : Result} (h : r = .ok .unit ∨ ∀ v, r ≠ .ok v) :
    drawEnd (some r, u) = State.returns (if r = .ok .unit then .ok else .block r) { u with session := .active } := by
  obtain rfl | error := h
  · rfl
  · rw [if_neg (error _)]
    cases r with
    | ok v => exact absurd rfl (error v)
    | invalidInput | outOfRange | transportError _ _ | illegal | noInterface => rfl

/-- Settles O58: FLUSH's answer, where it gives one, is what `draw` ends with. -/
theorem drawRunsFlush : Obligations.DrawRunsFlush := by
  unfold Obligations.DrawRunsFlush
  intro s ha hl
  have call := sessionCall_draw_active ha hl
  refine ⟨_, exec_live (s := s.flushing) hl .flush, fun r hr => ?result, fun hr => ?none⟩
  case result =>
    have result : (instrBody .flush s.flushing).1 = some r := result_of_replies_answer hr
    have ok_or_error := (instrBody_framer_result rfl result).imp_right State.Fails.ne_ok
    rw [call, result, drawEnd_some ok_or_error]
    simp [State.returns, State.reply, State.flushing]
  case none =>
    have result : (instrBody .flush s.flushing).1 = none := result_none_of_replies_answer hr
    rw [call, result]
    exact ⟨rfl, (keepsBlock_instrBody .flush).session s.flushing, (instrBody_none result).2⟩

end Sys2Proof.Machine
end

section
/-! SUPPORT. The session calls that go well, and each failing step of `setup` and `close` (60_exceptions.md R276 to R281), call
by call: a state of the call under way is written `t.drawsOf s k`, where `s` is the state the call began in. -/

namespace Sys2Proof.Machine

/-! ## The calls of the collaborators, one after the other -/

/-- The state `t` at a point where `k` collaborator calls have been made since `s`. -/
def State.drawsOf (t s : State) (k : Nat) : State :=
  { t with script := (s.afterDraws k).script, draws := (s.afterDraws k).draws }

theorem afterDraws_eq_drawsOf (k : Nat) (s : State) : s.afterDraws k = s.drawsOf s k := afterDraws_eq k s

/-- The next call uses up the draw of `s` after those already used up. -/
theorem advanceDraw_drawsOf (t s : State) (k : Nat) : (t.drawsOf s k).advanceDraw = t.drawsOf s (k + 1) := by
  obtain ⟨script, draws⟩ := advanceDraw_of_afterDraws (s := s) (t := t.drawsOf s k) rfl rfl
  exact state_ext ⟨rfl, rfl, rfl, rfl, rfl, rfl, rfl, rfl, rfl, rfl, script, draws, rfl⟩

theorem nextDraw_drawsOf {s : State} {k : Nat} {d : Draw} (h : s.drawAt k = d) (t : State) :
    (t.drawsOf s k).nextDraw = d := nextDraw_of_drawAt h rfl rfl

/-- What a reset-control call that returns leaves beside its draw (R273). -/
def State.logCall (c : ResetCall) (o : IoOutcome) (s : State) : State :=
  { s with resetLog := s.resetLog ++ [.called c o] }

/-- The result of a command frame, by its write's outcome (R214, R253). -/
def commandResult : IoOutcome → Result
  | .ok => .ok .unit
  | .err e => .transportError 0 e

/-- What a command frame whose write returns leaves beside its draw: its entry, the mark where it is too long, and the answer
(R212, R214, R218). -/
def State.logCommand (p : List Byte) (o : IoOutcome) (s : State) : State :=
  { s with
    txLog := s.txLog ++ [frameEntry s.cfg .cmd o p]
    oversize := s.oversize || decide (p.length > s.cfg.maxXfer)
    replies := s.replies ++ [.op (commandResult o)] }

section
variable {s t : State} {k : Nat} {o : IoOutcome}

theorem resetControl_drawsOf (h : s.drawAt k = .returns o) (c : ResetCall) :
    resetControl c (t.drawsOf s k) = (some o, (t.logCall c o).drawsOf s (k + 1)) := by
  rw [resetControl_returns (nextDraw_drawsOf h t), advanceDraw_drawsOf]
  rfl

/-- SENDCMD of a living block with a bus, whose write returns. -/
theorem issue_sendCmd_drawsOf (hl : t.live = true) (hi : t.cfg.iface = .bus) (h : s.drawAt k = .returns o) (p : List Byte) :
    issue (sendCmdBody p) (t.drawsOf s k) = (some (commandResult o), (t.logCommand p o).drawsOf s (k + 1)) := by
  have sent := sendFrame_returns (nextDraw_drawsOf h t) .cmd p
  rw [advanceDraw_drawsOf] at sent
  rw [issue_live (by exact hl), sendCmdBody, withInterface_bus (by exact hi), sendAll, sent]
  cases o <;> rfl

/-- SENDCMD of a living block without an interface. -/
theorem issue_sendCmd_noInterface (hl : t.live = true) (hn : t.cfg.iface = .none) (p : List Byte) :
    issue (sendCmdBody p) t = (some .noInterface, t.reply (.op .noInterface)) := by
  rw [issue_live hl, sendCmdBody, withInterface_none hn]
  rfl

end

/-! ## `open` where it goes well -/

/-- With the bus transport acquired the block is constructed (R276, R300). -/
theorem openTransport_ok {s t : State} {k : Nat} (h : s.drawAt k = .returns .ok) (cfg : Config) :
    openTransport cfg (t.drawsOf s k) = (construct cfg (t.drawsOf s (k + 1))).returns .ok := by
  rw [openTransport, acquire_returns (nextDraw_drawsOf h t), advanceDraw_drawsOf]

/-- `open` with a legal configuration where all its calls return ok. -/
theorem openCall_ok {cfg : Config} {s : State} (hs : s.session = .uninitialized) (hc : configLegal cfg = true)
    (h : s.okBefore (2 + cfg.dirInOpen.toNat)) :
    openCall cfg s = .next (State.returns .ok (construct cfg
      (State.drawsOf { s with resetLog := s.resetLog ++ directionCalls cfg.dirInOpen } s (2 + cfg.dirInOpen.toNat)))) := by
  have first : s.okBefore (0 + 1) := okBefore_mono h (by omega)
  have last : s.drawAt (1 + cfg.dirInOpen.toNat) = .returns .ok := h _ (by omega)
  rw [openCall_legal hs hc, openCollaborators_ok (okBefore_succ first).1, openDirection_ok (okBefore_mono h (by omega)),
    afterDraws_eq_drawsOf, show 2 + cfg.dirInOpen.toNat = 1 + cfg.dirInOpen.toNat + 1 by omega]
  exact congrArg _ (openTransport_ok (t := { s with resetLog := s.resetLog ++ directionCalls cfg.dirInOpen }) last cfg)

/-- Settles O13: the constructed block, field by field. -/
theorem openConstructsTheBlock : Obligations.OpenConstructsTheBlock := by
  unfold Obligations.OpenConstructsTheBlock
  intro cfg s hs hc h
  exact ⟨_, openCall_ok hs hc h, rfl, rfl, rfl, rfl, rfl, rfl, bytes_nil _, rfl, rfl, rfl, rfl, rfl, rfl⟩

/-! ## `setup` -/

theorem sessionCall_setup_configured {s : State} (h : s.session = .configured) :
    sessionCall .setup s = .next (setupDirection s) := congrArg _ (if_pos h)

/-- The direction cannot be set where the host sets it in `setup` (R278; log 17). -/
theorem setupDirection_err {s : State} {e : IoError} (due : s.cfg.dirInSetup = true) (h : s.drawAt 0 = .returns (.err e)) :
    setupDirection s =
      ((s.logCall .setDirectionOut (.err e)).drawsOf s 1).returns (.resetControl .setDirectionOut e) := by
  have call : resetControl .setDirectionOut s = _ := resetControl_drawsOf (t := s) h _
  rw [setupDirection, due, setDirection_due, call]

/-- What `setup` does after it set the direction, where the host sets it there. -/
theorem setupDirection_ok {s : State} (h : s.okBefore s.cfg.dirInSetup.toNat) :
    setupDirection s = setupPulse (State.drawsOf { s with resetLog := s.resetLog ++ directionCalls s.cfg.dirInSetup } s
      s.cfg.dirInSetup.toNat) := by
  have call := setDirection_ok (s := s) (t := s) (j := 0) rfl rfl (by rwa [Nat.zero_add])
  rw [Nat.zero_add] at call
  rw [setupDirection, call]
  rfl

section
variable {s t : State} {k : Nat} {e : IoError}

theorem setupPulse_err (h : s.drawAt k = .returns (.err e)) :
    setupPulse (t.drawsOf s k) =
      ((t.logCall (.setValue false) (.err e)).drawsOf s (k + 1)).returns (.resetControl (.setValue false) e) := by
  rw [setupPulse, resetControl_drawsOf h]

theorem setupPulse_ok (h : s.drawAt k = .returns .ok) :
    setupPulse (t.drawsOf s k) = setupRelease ((t.logCall (.setValue false) .ok).drawsOf s (k + 1)) := by
  rw [setupPulse, resetControl_drawsOf h]

theorem setupRelease_err (h : s.drawAt k = .returns (.err e)) :
    setupRelease (t.drawsOf s k) =
      ((t.hold.logCall (.setValue true) (.err e)).drawsOf s (k + 1)).returns (.resetControl (.setValue true) e) := by
  rw [setupRelease, show (t.drawsOf s k).hold = t.hold.drawsOf s k from rfl, resetControl_drawsOf h]

theorem setupRelease_ok (h : s.drawAt k = .returns .ok) :
    setupRelease (t.drawsOf s k) = setupBringUp ((t.hold.logCall (.setValue true) .ok).drawsOf s (k + 1)) := by
  rw [setupRelease, show (t.drawsOf s k).hold = t.hold.drawsOf s k from rfl, resetControl_drawsOf h]

theorem setupBringUp_noInterface (hl : t.live = true) (hn : t.cfg.iface = .none) :
    setupBringUp t = (t.reply (.op .noInterface)).returns (.block .noInterface) := by
  rw [setupBringUp, issue_sendCmd_noInterface hl hn]

theorem setupBringUp_err (hl : t.live = true) (hi : t.cfg.iface = .bus) (h : s.drawAt k = .returns (.err e)) :
    setupBringUp (t.drawsOf s k) =
      ((t.logCommand t.cfg.bringUpSeq (.err e)).drawsOf s (k + 1)).returns (.block (.transportError 0 e)) := by
  rw [setupBringUp, issue_sendCmd_drawsOf hl hi h]
  rfl

theorem setupBringUp_ok (hl : t.live = true) (hi : t.cfg.iface = .bus) (h : s.drawAt k = .returns .ok) :
    setupBringUp (t.drawsOf s k) =
      State.returns .ok { (t.logCommand t.cfg.bringUpSeq .ok).drawsOf s (k + 1) with session := .active } := by
  rw [setupBringUp, issue_sendCmd_drawsOf hl hi h]
  rfl

end

/-- The state of `setup` after the reset line was pulsed, with two calls beside the direction's made. -/
def State.pulsed (s : State) : State :=
  { s with
    resetLog := s.resetLog ++ directionCalls s.cfg.dirInSetup ++
      [.called (.setValue false) .ok, .hold, .called (.setValue true) .ok] }

/-- `setup` comes to the bring-up sequence where its reset-control calls return ok (R277). -/
theorem setupDirection_pulsed {s : State} (h : s.okBefore (s.cfg.dirInSetup.toNat + 2)) :
    setupDirection s = setupBringUp (s.pulsed.drawsOf s (s.cfg.dirInSetup.toNat + 2)) := by
  rw [setupDirection_ok (okBefore_mono h (by omega)), setupPulse_ok (h _ (by omega)), setupRelease_ok (h _ (by omega))]
  simp [State.logCall, State.pulsed, State.hold]

/-- Settles O56: the pulse and then the bring-up sequence, with no failing call. -/
theorem setupConfiguresTheDisplay : Obligations.SetupConfiguresTheDisplay := by
  unfold Obligations.SetupConfiguresTheDisplay
  intro s hs hl hi h
  rw [Nat.add_comm] at h ⊢
  rw [sessionCall_setup_configured hs, setupDirection_pulsed (okBefore_mono h (by omega)),
    setupBringUp_ok (t := s.pulsed) hl hi (h _ (by omega)), afterDraws_eq_drawsOf]
  simp [State.returns, State.reply, State.drawsOf, State.logCommand, State.pulsed, commandResult]

/-- Settles O57: one clause per call of `setup` that can fail, and one for the missing interface. -/
theorem setupStopsAtItsFirstFailure : Obligations.SetupStopsAtItsFirstFailure := by
  unfold Obligations.SetupStopsAtItsFirstFailure
  intro s e hs hl
  dsimp only
  simp only [sessionCall_setup_configured hs, Nat.add_comm _ s.cfg.dirInSetup.toNat, afterDraws_eq_drawsOf]
  refine ⟨fun due err => ?direction, fun ok err => ?low, fun ok err => ?high, fun hn ok => ?noInterface,
    fun hi ok err => ?bringUp⟩
  case direction =>
    rw [setupDirection_err due err]
    rfl
  case low =>
    rw [setupDirection_ok ok, setupPulse_err err]
    rfl
  case high =>
    rw [setupDirection_ok (okBefore_mono ok (by omega)), setupPulse_ok (ok _ (by omega)), setupRelease_err err]
    simp [State.returns, State.reply, State.drawsOf, State.logCall, State.hold]
  case noInterface =>
    rw [setupDirection_pulsed ok, setupBringUp_noInterface (by exact hl) (by exact hn)]
    simp [State.returns, State.reply, State.drawsOf, State.pulsed]
  case bringUp =>
    rw [setupDirection_pulsed ok, setupBringUp_err (t := s.pulsed) hl hi err]
    simp [State.returns, State.reply, State.drawsOf, State.logCommand, State.pulsed, commandResult]

/-! ## `close` -/

theorem sessionCall_close_open {s : State} (h : s.session = .configured ∨ s.session = .active) :
    sessionCall .close s = .next (closePowerOff s) := congrArg _ (if_pos h)

/-- The power-off command without an interface (R281; log 15). -/
theorem closePowerOff_noInterface {s : State} (hl : s.live = true) (hn : s.cfg.iface = .none) :
    closePowerOff s = (s.reply (.op .noInterface)).shut.returns (.block .noInterface) := by
  rw [closePowerOff, issue_sendCmd_noInterface hl hn]

section
variable {s : State} (hl : s.live = true) (hi : s.cfg.iface = .bus)
include hl hi

theorem closePowerOff_err {e : IoError} (h : s.drawAt 0 = .returns (.err e)) :
    closePowerOff s =
      ((s.logCommand [s.cfg.powerOffOpc] (.err e)).drawsOf s 1).shut.returns (.block (.transportError 0 e)) := by
  have call : issue _ s = _ := issue_sendCmd_drawsOf hl hi h [s.cfg.powerOffOpc]
  rw [closePowerOff, call]
  rfl

theorem closePowerOff_ok (h : s.drawAt 0 = .returns .ok) :
    closePowerOff s = closeRelease ((s.logCommand [s.cfg.powerOffOpc] .ok).drawsOf s 1) := by
  have call : issue _ s = _ := issue_sendCmd_drawsOf hl hi h [s.cfg.powerOffOpc]
  rw [closePowerOff, call]
  rfl

end

/-- What `close` returns of the outcome of `release()` (R281). -/
def releaseResult : IoOutcome → SessionResult
  | .ok => .ok
  | .err e => .resetControl .release e

/-- The session ends Closed whatever `release()` answers (R281). -/
theorem closeRelease_returns {s t : State} {k : Nat} {o : IoOutcome} (h : s.drawAt k = .returns o) :
    closeRelease (t.drawsOf s k) = ((t.logCall .release o).drawsOf s (k + 1)).shut.returns (releaseResult o) := by
  rw [closeRelease, resetControl_drawsOf h]
  cases o <;> rfl

/-- `close` whose power-off command went well, by the outcome of the release. -/
theorem closePowerOff_released {s : State} (hl : s.live = true) (hi : s.cfg.iface = .bus) {o : IoOutcome}
    (h0 : s.drawAt 0 = .returns .ok) (h1 : s.drawAt 1 = .returns o) :
    closePowerOff s = { s.afterDraws 2 with
      live := false, session := .closed, oversize := s.oversize || decide (1 > s.cfg.maxXfer)
      txLog := s.txLog ++ [⟨s.cfg.busAddr, s.cfg.pfxCmdSingle, [s.cfg.powerOffOpc], .ok⟩]
      resetLog := s.resetLog ++ [.called .release o]
      replies := s.replies ++ [.op (.ok .unit), .session (releaseResult o)] } := by
  rw [closePowerOff_ok hl hi h0, closeRelease_returns h1, afterDraws_eq_drawsOf]
  simp [State.returns, State.reply, State.shut, State.drawsOf, State.logCall, State.logCommand, commandResult, frameEntry,
    selectPfx]

/-- Settles O59: the power-off command fails, or is not sent, or is followed by the release. -/
theorem closeDestroysTheBlock : Obligations.CloseDestroysTheBlock := by
  unfold Obligations.CloseDestroysTheBlock
  intro s hs hl
  dsimp only
  rw [sessionCall_close_open hs]
  refine ⟨fun hi ok => ?released, fun e hi err => ?command, fun e hi ok err => ?release, fun hn => ?noInterface⟩
  case released => rw [closePowerOff_released hl hi (ok 0 (by decide)) (ok 1 (by decide)), releaseResult]
  case command =>
    rw [closePowerOff_err hl hi err, afterDraws_eq_drawsOf]
    simp [State.returns, State.reply, State.shut, State.drawsOf, State.logCommand, commandResult, frameEntry, selectPfx]
  case release => rw [closePowerOff_released hl hi (ok 0 (by decide)) err, releaseResult]
  case noInterface =>
    rw [closePowerOff_noInterface hl hn]
    simp [State.returns, State.reply, State.shut]

end Sys2Proof.Machine
end

section
/-! SUPPORT. The loop of CIRCLE (41_rasterizer.md R163, R164; I-GK1, log 21): its variables at each round, the number of its
rounds, and the offsets of its points from the centre. -/

namespace Sys2Proof.Machine

/-! ## The rounds of the loop -/

/-- One round of CIRCLE's loop (R163). -/
def circleRound (v : CircleVars) : CircleVars := circleStepX (circleStepY v)

/-- CIRCLE's variables after `k` rounds (R163). -/
def circleVarsAt (r k : Nat) : CircleVars := circleRound^[k] (circleStart r)

theorem circleVarsAt_succ (r k : Nat) : circleVarsAt r (k + 1) = circleRound (circleVarsAt r k) :=
  Function.iterate_succ_apply' ..

theorem circleStepY_x (v : CircleVars) : (circleStepY v).x = v.x := by
  unfold circleStepY
  split <;> rfl

theorem circleStepY_y_le (v : CircleVars) : (circleStepY v).y ≤ v.y := by
  unfold circleStepY
  split
  · exact sub_le_self _ one_pos.le
  · exact le_rfl

theorem circleVarsAt_x (r k : Nat) : (circleVarsAt r k).x = k := by
  induction k with
  | zero => rfl
  | succ k ih => rw [circleVarsAt_succ, circleRound, circleStepX, circleStepY_x, ih, Nat.cast_succ]

theorem circleVarsAt_y_le (r k : Nat) : (circleVarsAt r k).y ≤ r := by
  induction k with
  | zero => exact le_rfl
  | succ k ih =>
    rw [circleVarsAt_succ]
    exact (circleStepY_y_le _).trans ih

/-- A loop bounded by `n` goes through `m` rounds, each begun with `x < y`, and plots the octant points after each; short of
its bound it ends because `x < y` fails. -/
theorem exists_circleLoop_eq_flatMap (x0 y0 : Int) (n : Nat) (v : CircleVars) :
    ∃ m ≤ n,
      circleLoop x0 y0 n v = (List.range m).flatMap (fun k =>
        circleOctants x0 y0 (circleRound^[k + 1] v).x (circleRound^[k + 1] v).y) ∧
      (∀ k < m, (circleRound^[k] v).x < (circleRound^[k] v).y) ∧
      (m < n → ¬ (circleRound^[m] v).x < (circleRound^[m] v).y) := by
  induction n generalizing v with
  | zero => exact ⟨0, le_rfl, rfl, nofun, nofun⟩
  | succ n ih =>
    by_cases more : v.x < v.y
    · obtain ⟨m, hm, points, before, after⟩ := ih (circleRound v)
      refine ⟨m + 1, Nat.succ_le_succ hm, ?_, ?_, fun h => after (Nat.lt_of_succ_lt_succ h)⟩
      · rw [circleLoop, if_pos more, List.range_succ_eq_map, List.flatMap_cons, List.flatMap_map]
        exact congrArg (circleOctants x0 y0 _ _ ++ ·) points
      · rintro (_ | k) hk
        · exact more
        · exact before k (Nat.lt_of_succ_lt_succ hk)
    · exact ⟨0, Nat.zero_le _, if_neg more, nofun, fun _ => more⟩

/-- CIRCLE's points are the extrema and the octant points of its rounds. Its bound never cuts it short: after `r` rounds `x` is
`r` and `y` is no more (R164(c)). -/
theorem exists_circlePoints_eq_flatMap (x0 y0 : Int) (r : Nat) :
    ∃ n ≤ r,
      circlePoints x0 y0 r = circleExtrema x0 y0 r ++ (List.range n).flatMap (fun k =>
        circleOctants x0 y0 (circleVarsAt r (k + 1)).x (circleVarsAt r (k + 1)).y) ∧
      ¬ (circleVarsAt r n).x < (circleVarsAt r n).y ∧ ∀ k < n, (circleVarsAt r k).x < (circleVarsAt r k).y := by
  obtain ⟨n, hn, points, before, after⟩ := exists_circleLoop_eq_flatMap x0 y0 r (circleStart r)
  refine ⟨n, hn, congrArg _ points, ?_, before⟩
  obtain short | rfl := hn.lt_or_eq
  · exact after short
  · rw [circleVarsAt_x]
    exact not_lt.2 (circleVarsAt_y_le n n)

/-- Settles O34: `round` is the model's round, and its iterates are CIRCLE's variables. -/
theorem circleLoopRunsWhileXBelowY : Obligations.CircleLoopRunsWhileXBelowY := by
  unfold Obligations.CircleLoopRunsWhileXBelowY
  exact exists_circlePoints_eq_flatMap

/-! ## The symmetry of the points -/

/-- The two offsets of `p` from the centre, without their signs and their order. -/
def offsetsFrom (x0 y0 : Int) (p : Int × Int) : Sym2 Nat := s((p.1 - x0).natAbs, (p.2 - y0).natAbs)

/-- The offsets are `x` and `y` where each coordinate is that of the centre, plus or minus the one or the other. -/
theorem offsetsFrom_eq_iff {x0 y0 x y : Int} {p : Int × Int} :
    offsetsFrom x0 y0 p = s(x.natAbs, y.natAbs) ↔
      ((p.1 = x0 + x ∨ p.1 = x0 - x) ∧ (p.2 = y0 + y ∨ p.2 = y0 - y)) ∨
      ((p.1 = x0 + y ∨ p.1 = x0 - y) ∧ (p.2 = y0 + x ∨ p.2 = y0 - x)) := by
  simp only [offsetsFrom, Sym2.eq_iff, Int.natAbs_eq_natAbs_iff, sub_eq_iff_eq_add', sub_eq_add_neg x0,
    sub_eq_add_neg y0]

theorem mem_circleOctants {x0 y0 x y : Int} {p : Int × Int} :
    p ∈ circleOctants x0 y0 x y ↔ offsetsFrom x0 y0 p = s(x.natAbs, y.natAbs) := by
  simp only [offsetsFrom_eq_iff, circleOctants, List.mem_cons, List.not_mem_nil, or_false, Prod.ext_iff, and_or_left,
    or_and_right, or_assoc]

/-- The extrema are the octant points of the variables before the first round. -/
theorem mem_circleExtrema {x0 y0 r : Int} {p : Int × Int} :
    p ∈ circleExtrema x0 y0 r ↔ offsetsFrom x0 y0 p = s(0, r.natAbs) := by
  rw [← Int.natAbs_zero, offsetsFrom_eq_iff]
  simp only [circleExtrema, List.mem_cons, List.not_mem_nil, or_false, Prod.ext_iff, add_zero, sub_zero, or_self,
    and_or_left, or_and_right, or_assoc]

/-- Whether CIRCLE plots a point depends only on the sizes of its two offsets from the centre. -/
theorem mem_circlePoints_of_offsetsFrom_eq {x0 y0 : Int} {r : Nat} {p q : Int × Int}
    (h : offsetsFrom x0 y0 q = offsetsFrom x0 y0 p) (hp : p ∈ circlePoints x0 y0 r) : q ∈ circlePoints x0 y0 r := by
  obtain ⟨n, -, points, -⟩ := exists_circlePoints_eq_flatMap x0 y0 r
  simp only [points, List.mem_append, List.mem_flatMap, mem_circleExtrema, mem_circleOctants, h] at hp ⊢
  exact hp

/-- Settles O35: the reflections change the sign of an offset, and the swap changes their order. -/
theorem circleIsSymmetric : Obligations.CircleIsSymmetric := by
  unfold Obligations.CircleIsSymmetric
  refine ⟨fun x0 y0 r x y h => ⟨?mirrorX, ?mirrorY, ?swap⟩, ?sizes⟩
  case mirrorX =>
    have negated : 2 * x0 - x - x0 = -(x - x0) := by ring
    exact mem_circlePoints_of_offsetsFrom_eq (by simp only [offsetsFrom, negated, Int.natAbs_neg]) h
  case mirrorY =>
    have negated : 2 * y0 - y - y0 = -(y - y0) := by ring
    exact mem_circlePoints_of_offsetsFrom_eq (by simp only [offsetsFrom, negated, Int.natAbs_neg]) h
  case swap =>
    exact mem_circlePoints_of_offsetsFrom_eq (by simp only [offsetsFrom, add_sub_cancel_left, Sym2.eq_swap]) h
  case sizes => decide

/-! ## The operation of a living block -/

theorem exec_circle_live {s : State} (hl : s.live = true) (c : Colour) (x0 y0 r : Word16) :
    exec (.circle c x0 y0 r) s = .next { s with
      fb := paint s.cfg.w s.cfg.h c (circlePoints x0.toNat y0.toNat r.toNat) s.fb
      replies := s.replies ++ [.op (.ok .unit)] } :=
  exec_live hl _

/-- Settles O33: the new framebuffer is that of painting the points. -/
theorem circlePaintsItsPoints : Obligations.CirclePaintsItsPoints := by
  unfold Obligations.CirclePaintsItsPoints
  exact ⟨fun c x0 y0 r => by rw [encode, headerWord_toBit]; rfl, fun c x0 y0 r s inv hl =>
    ⟨_, exec_circle_live hl c x0 y0 r, paintsExactly_paint inv.legal inv.memory c _⟩⟩

end Sys2Proof.Machine
end
